-- ==== Sys2Proof/Word.lean ====
section
/-!
DEFINITION. The three word types that cross the boundary of the LoopMix128 PRNG core: data words (R5 `W` = 64,
R7 `BV64`), command words (R41, 67 bits) and response words (R42, 65 bits). Bit 0 is the least significant bit (R7).
-/

namespace Sys2Proof

/-- `BV64`: an unsigned 64-bit value (R5, R7). Every register, operand and result has this width. -/
abbrev Word := BitVec 64

/-- A command word: `op` in bits 66:64, `data` in bits 63:0 (R41, `CMD_W` = 67 of R6). -/
abbrev CmdWord := BitVec 67

/-- A response word: `err` in bit 64, `data` in bits 63:0 (R42, `RSP_W` = 65 of R6). -/
abbrev RspWord := BitVec 65

end Sys2Proof
end

