-- ==== Sys2Proof/Syntax.lean ====
section
/-!
DEFINITION. What the host can say to the block: the commands (R43, one constructor per row of
spec/opcode_table.json), the moves of the host at the ports (R108), and the source lines of the assembler (R52, R53).
-/

namespace Sys2Proof

/-- The commands of the opcode map (R43). Only `SEED` has an operand (R44); the `data` field of every other command is
ignored (R45), so those constructors carry nothing (DESIGN CHOICE, safe, log entry 14). -/
inductive Instr where
  /-- `NOP`, op 0b000 (R80). -/
  | nop
  /-- `SEED d`, op 0b001 (R68). -/
  | seed (d : Word)
  /-- `SXNEXT`, op 0b010 (R69). -/
  | sxnext
  /-- `INIT`, op 0b011 (R73). -/
  | init
  /-- `NEXT`, op 0b100 (R74). -/
  | next
  /-- `RDSTAT`, op 0b101 (R81). -/
  | rdstat
  /-- The reserved opcode 0b110 (R46, R82). -/
  | rsvd6
  /-- The reserved opcode 0b111 (R46, R82). -/
  | rsvd7
  deriving DecidableEq, Repr

/-- One interaction of the host with the block (R108, the host interface). The machine has no time (R111): a move
stands for as many clock cycles as the interaction takes (DEDUCED, safe, log entry 4). There is no move for a host that breaks
R104 (b) or (d) (U14; the spec's own choice, unsafe, log entry 13); a reset edge counts as the end of duty (b) for a command
presented at it (DESIGN CHOICE, unsafe, log entry 16). -/
inductive HostMove where
  /-- `cmd_valid` = 1 with this command word, held until it is accepted and answered (R48 to R51, R104). -/
  | present (w : CmdWord)
  /-- `cmd_valid` = 0 (R108: the host may idle for any number of cycles). -/
  | idle
  /-- A rising edge with `rst` = 1, with or without a command presented at that edge (R101, R103). Any move may follow: whether
  the host must go on presenting that command after the edge (R104 (b), R48 "until acceptance") the spec leaves open, and the
  model takes the edge to end the duty (DESIGN CHOICE, unsafe, log entry 16). -/
  | reset (presented : Option CmdWord)
  /-- `rst` = 1 at a rising edge while this accepted command has not yet been answered (R102). -/
  | resetInFlight (w : CmdWord)
  /-- Power is lost and comes back, with no reset applied yet (R99, R101, U6, U13). -/
  | powerUp
  deriving DecidableEq, Repr

/-- A line of assembler source, blank lines and comments taken out (R52), with the two pseudo-instructions of R53.
A literal is kept as the number written; `SourceLine.wf` checks that it is a 64-bit one. -/
inductive SourceLine where
  | nop
  | seed (literal : Nat)
  | sxnext
  | init
  | next
  | rdstat
  | rsvd6
  | rsvd7
  /-- `SEEDINIT imm64` (R53). -/
  | seedinit (literal : Nat)
  /-- `DRAW n` (R53). -/
  | draw (n : Nat)
  deriving DecidableEq, Repr

end Sys2Proof
end

