-- ==== Sys2Proof/Config.lean ====
section
/-!
DEFINITION. The named constants of R5 and R6 that fix widths and counts; the configuration record of R5, R6 and
93_implementation_defined.md U19, U20 (the TYPE; the values the machine runs with are `Sys2Proof.Machine.parameters`, in Sys2Proof/Machine/Parameters.lean), and the free values of
the model, each an opaque constant with no body (U13: the state before the first reset after power-up).
-/

namespace Sys2Proof

/-- `W` (R5): the width in bits of every data register, operand, result and arithmetic operation. It is the width of `Word`
(lemma `word_width`). -/
def Config.W : Nat := 64

/-- `N_GEN` (R5): the number of GeneratorState words. It is the length of `GeneratorState.words` (lemma
`GeneratorState.words_length`). -/
def Config.N_GEN : Nat := 3

/-- `N_INIT` (R5): the number of successive Seed Expander outputs one initialisation consumes. `initTriple` holds that many
outputs of `sxOutputs` (lemma `initTriple_words`). -/
def Config.N_INIT : Nat := 3

/-- `CMD_W` (R6): the width of the command word, `CmdWord` (lemma `cmdWord_width`). -/
def Config.CMD_W : Nat := 67

/-- `RSP_W` (R6): the width of the response word, `RspWord` (lemma `rspWord_width`). -/
def Config.RSP_W : Nat := 65

/-- The values of the algorithm's parameters, in one record (R5: the six values the document prints, R6: the three shift
amounts it does not give). The widths and counts of R5 and R6 are the constants above: they fix types and the shape of the
state, which no value of a record can. -/
structure Config where
  /-- `SX_GAMMA`: the additive constant of the Seed Expander. -/
  sxGamma : Word
  /-- `SX_MUL1`: the multiplier of the first avalanche round. -/
  sxMul1 : Word
  /-- `SX_MUL2`: the multiplier of the second avalanche round. -/
  sxMul2 : Word
  /-- `FC_INC`: the additive constant of `fastCounter`. -/
  fcInc : Word
  /-- `ROT_MIX`: the left-rotation amount applied to `mix`. -/
  rotMix : Nat
  /-- `ROT_LOOP`: the left-rotation amount applied to the old `loopMix`. -/
  rotLoop : Nat
  /-- `SX_SHIFT1`: the shift amount of the first XOR-shift. -/
  sxShift1 : Nat
  /-- `SX_SHIFT2`: the shift amount of the second XOR-shift. -/
  sxShift2 : Nat
  /-- `SX_SHIFT3`: the shift amount of the final XOR-shift. -/
  sxShift3 : Nat
  deriving DecidableEq, Repr

/-- A free 64-bit value: what a 64-bit register or output holds where the spec says "unspecified" (R101, U13).
DESIGN CHOICE, safe (log entry 7): it has no body, so nothing can be proved of it. -/
opaque Config.freeWord : Nat → Word

/-- A free bit: what a flag, or the presence of a value, is where the spec says "unspecified" (R101, U13).
DESIGN CHOICE, safe (log entry 7). -/
opaque Config.freeBit : Nat → Bool

end Sys2Proof
end

