-- ==== Sys2Proof/WellFormed.lean ====
section
/-!
DEFINITION. What is well formed: a command (always, R44 and R46), a configuration record (the properties of R5's last
column and R60's range of shift amounts) and a source line (R52: a literal is a 64-bit one).
-/

namespace Sys2Proof

/-- Every command is well formed: its one operand, the seed, may be any 64-bit value, zero included (R44), and the
reserved opcodes are commands like any other (R46). One line per constructor, so that a constructor added later has to
say its own. -/
def Instr.wf : Instr → Bool
  | .nop => true
  | .seed _ => true
  | .sxnext => true
  | .init => true
  | .next => true
  | .rdstat => true
  | .rsvd6 => true
  | .rsvd7 => true

/-- The properties of the parameters that rules rely on: the additive constants and the multipliers are odd, the
rotation amounts are below 64 (R5), the shift amounts lie in 1..63 (R60). -/
def Config.wf (p : Config) : Bool :=
  p.sxGamma.getLsbD 0 && p.sxMul1.getLsbD 0 && p.sxMul2.getLsbD 0 && p.fcInc.getLsbD 0
    && decide (p.rotMix < 64) && decide (p.rotLoop < 64)
    && (decide (1 ≤ p.sxShift1) && decide (p.sxShift1 ≤ 63))
    && (decide (1 ≤ p.sxShift2) && decide (p.sxShift2 ≤ 63))
    && (decide (1 ≤ p.sxShift3) && decide (p.sxShift3 ≤ 63))

/-- The literal of `SEED` and of `SEEDINIT` is a 64-bit literal (R52, R53). -/
def SourceLine.wf : SourceLine → Bool
  | .seed n => decide (n < 2 ^ 64)
  | .seedinit n => decide (n < 2 ^ 64)
  | .nop => true
  | .sxnext => true
  | .init => true
  | .next => true
  | .rdstat => true
  | .rsvd6 => true
  | .rsvd7 => true
  | .draw _ => true

end Sys2Proof
end

