-- ==== Sys2Proof/Decode.lean ====
section
/-!
DEFINITION. The decoder of command words (R41, R43 to R47), total on all 2^67 of them, and AFTER it the encoder (R52's
"the 67-bit word {op, data}"), and the host's reading of a number as a command.
-/

namespace Sys2Proof

/-- `cmd_word[66:64]`, the opcode field (R41). -/
def cmdOp (w : CmdWord) : BitVec 3 := w.extractLsb' 64 3

/-- `cmd_word[63:0]`, the data field (R41), used as it stands (R44). -/
def cmdData (w : CmdWord) : Word := w.extractLsb' 0 64

/-- The opcode map (R43): all eight values of `op`, so every command word decodes (R46); `data` matters to `SEED` alone
(R45). -/
def decode (w : CmdWord) : Instr :=
  if cmdOp w = 0b000#3 then .nop
  else if cmdOp w = 0b001#3 then .seed (cmdData w)
  else if cmdOp w = 0b010#3 then .sxnext
  else if cmdOp w = 0b011#3 then .init
  else if cmdOp w = 0b100#3 then .next
  else if cmdOp w = 0b101#3 then .rdstat
  else if cmdOp w = 0b110#3 then .rsvd6
  else .rsvd7

/-- Why a number is no command word. -/
inductive DecodeError where
  /-- The number needs more than 67 bits: a command word is always 67 bits (R47). -/
  | widerThanACommandWord
  deriving DecidableEq, Repr

/-- A number read as a command word, bit 0 least significant (R41); a number of more than 67 bits is none (DESIGN CHOICE,
safe, log entry 15). -/
def decodeNumber (w : Nat) : Except DecodeError Instr :=
  if w < 2 ^ 67 then .ok (decode (BitVec.ofNat 67 w)) else .error .widerThanACommandWord

/-- The command the decoder reads from the bits `w` of a row of spec/opcode_table.json. There is one length (R47), so
`nbits` (67 rounded up to whole bytes) tells the decoder nothing. -/
def decodeTableWord (_nbits w : Nat) : Option Instr :=
  match decodeNumber w with
  | .ok i => some i
  | .error _ => none

/-- The word `{op, data}` (R41, R52). -/
def cmdWord (op : BitVec 3) (data : Word) : CmdWord := op ++ data

/-- The opcode of a command (R43). -/
def Instr.opcode : Instr → BitVec 3
  | .nop => 0b000#3
  | .seed _ => 0b001#3
  | .sxnext => 0b010#3
  | .init => 0b011#3
  | .next => 0b100#3
  | .rdstat => 0b101#3
  | .rsvd6 => 0b110#3
  | .rsvd7 => 0b111#3

/-- What stands in the `data` field: the seed of `SEED`, zero for every other command (R52). -/
def Instr.data : Instr → Word
  | .seed d => d
  | .nop => 0
  | .sxnext => 0
  | .init => 0
  | .next => 0
  | .rdstat => 0
  | .rsvd6 => 0
  | .rsvd7 => 0

/-- The command word of a command, as the assembler emits it (R52). -/
def encode (i : Instr) : CmdWord := cmdWord i.opcode i.data

end Sys2Proof
end

