-- ==== Sys2Proof/Machine/State.lean ====
section
/-!
DEFINITION. The state of one block instance (R13), as plain data, with what the model adds so that one function of the
state can be a step: the response port, the host's moves still to come, whether a reset has been applied since power-up,
and a counter of the free values used. The reasons a step can stop, and the state right after reset (R26).
-/

namespace Sys2Proof.Machine

/-- The GeneratorState triple (R14): three 64-bit words. They are written together by `INIT` and by `NEXT` only, and hold a
value exactly when `GEN_VALID` = 1 (R18). -/
structure GeneratorState where
  fastCounter : Word
  mix : Word
  loopMix : Word
  deriving DecidableEq, Repr

/-- The three protocol faults (R86). They are not stops of the machine: a command that raises one is answered with
`err` = 1 and the block goes on (R88). -/
inductive Cause where
  /-- `IllegalCommand`, cause code 1: raised by the reserved opcodes, always. -/
  | illegalCommand
  /-- `SeedNotLoaded`, cause code 2: raised by `SXNEXT` and `INIT` when `SEED_VALID` = 0. -/
  | seedNotLoaded
  /-- `GeneratorNotSeeded`, cause code 3: raised by `NEXT` when `GEN_VALID` = 0. -/
  | generatorNotSeeded
  deriving DecidableEq, Repr

/-- The state of the machine. The first five fields are R13's record: a data register and its validity flag are one
`Option`, as R13 allows and R18 makes equivalent ("BV64 or no value"; `none` is the spec's own "holds no value", which
a register also comes to hold again when `INIT` discards the seed, R16; DEDUCED, safe, log entry 1). The last four are the
model's own (log entries 2 to 5 and 7). -/
structure State where
  /-- `seedState` (R16); `SEED_VALID` = 1 iff it holds a value (R18). -/
  seedState : Option Word
  /-- `fastCounter`, `mix`, `loopMix` (R14); `GEN_VALID` = 1 iff they hold a value (R18). -/
  gen : Option GeneratorState
  /-- `F_ILL` (R19). -/
  fIll : Bool
  /-- `F_NOSEED` (R19). -/
  fNoSeed : Bool
  /-- `F_NOGEN` (R19). -/
  fNoGen : Bool
  /-- The response port (R40, R51): `some r` is `rsp_valid` = 1 with `rsp_word` = r, the answer the last step gave;
  `none` is `rsp_valid` = 0. DESIGN CHOICE, safe (log entry 3). -/
  rsp : Option RspWord
  /-- What the host does next, first move first (R9, R10, R108); an empty list is a host that idles. The MODEL's field:
  DESIGN CHOICE, safe (log entry 2). -/
  host : List HostMove
  /-- A reset has been applied since power-up (R101, R104 (a)). The MODEL's field: DEDUCED, safe (log entry 5). -/
  resetDone : Bool
  /-- How many groups of free values have been used. The MODEL's field: DESIGN CHOICE, safe (log entry 7). -/
  freeCtr : Nat
  deriving DecidableEq, Repr

/-- Why a step stops with a fault: never. The block has no failure that stops it (R77, R88, R112); its three protocol
faults are next states (`Cause`). Safe: there is nothing here to lean on. -/
inductive Fault where
  deriving DecidableEq, Repr

/-- Why a step is refused. -/
inductive Refusal where
  /-- Raised by no arm of `exec` in this model: every command has its meaning. Safe: a refusal proves nothing. -/
  | notModelled (mnemonic : String)
  /-- Raised by `step` when the host presents a command after power-up and before the first reset: "the whole state,
  flags included, is unspecified and the block's outputs mean nothing" (R101), and U13 has the model refuse it (log entry
  6). Safe: no claim can be proved about such a run. -/
  | notResetSincePowerUp
  deriving DecidableEq, Repr

/-- The machine right after reset (R26, R101): the five flags 0 (no register holds a value, so both validity flags are
0), no response on the port (R101); nothing from the host yet, a reset applied, no free value used (DESIGN CHOICE, log
entries 2, 5 and 7). -/
def State.reset : State where
  seedState := none
  gen := none
  fIll := false
  fNoSeed := false
  fNoGen := false
  rsp := none
  host := []
  resetDone := true
  freeCtr := 0

end Sys2Proof.Machine
end

