-- ==== Sys2Proof/Machine/Datapath.lean ====
section
/-!
DEFINITION. The datapath: the primitives of R54 to R61, the Seed Expander's `next()` as a pure function (R67), the three
successive outputs `INIT` takes (R73, R75) and the Generator Core's `next()` as a pure function (R72). All are total
(R62, R63): nothing here can fault, and a carry or the high half of a product is recorded nowhere.
-/

namespace Sys2Proof.Machine

/-- `(a + b) mod 2^64` (R54). -/
def add64 (a b : Word) : Word := a + b

/-- The low 64 bits of the product (R55). -/
def mul64 (a b : Word) : Word := a * b

/-- Bitwise exclusive or (R56). -/
def xor64 (a b : Word) : Word := a ^^^ b

/-- The logical right shift (R57; an amount above 63, which no rule asks for, gives 0: log entry 11). -/
def shr64 (a : Word) (k : Nat) : Word := a >>> k

/-- The left shift (R58; an amount above 63, which no rule asks for, gives 0: log entry 11). -/
def shl64 (a : Word) (k : Nat) : Word := a <<< k

/-- The left rotation by `k mod 64` (R59, with D27's extension to every amount); amount 0 is the identity and is not
computed by the shift formula. -/
def rotl64 (x : Word) (k : Nat) : Word :=
  if k % 64 = 0 then x else shl64 x (k % 64) ||| shr64 x (64 - k % 64)

/-- XOR-shift: `z XOR (z >> k)` (R60; that the shift is right and logical is the spec's "[from general knowledge, not in
source]", G1, G2; UNVERIFIED, unsafe, log entry 8). -/
def xsr (z : Word) (k : Nat) : Word := xor64 z (shr64 z k)

/-- The avalanche function of the Seed Expander (R61): two rounds of XOR-shift then multiply, and one more XOR-shift. -/
def mix64 (p : Config) (z : Word) : Word :=
  let z1 := xsr z p.sxShift1
  let z2 := mul64 z1 p.sxMul1
  let z3 := xsr z2 p.sxShift2
  let z4 := mul64 z3 p.sxMul2
  xsr z4 p.sxShift3

/-- The Seed Expander's `next()` (R67): the new SeedState, and the output, which mixes the UPDATED value. -/
def sxNext (p : Config) (s : Word) : Word × Word :=
  let s' := add64 s p.sxGamma
  (s', mix64 p s')

/-- The words of a GeneratorState in the order of R8's alias x[0], x[1], x[2]; there are `Config.N_GEN` of them (R5, R14). -/
def GeneratorState.words (g : GeneratorState) : List Word := [g.fastCounter, g.mix, g.loopMix]

/-- The outputs of `n` successive calls of the Seed Expander from SeedState `s`, first call first (R67, R70). -/
def sxOutputs (p : Config) : Nat → Word → List Word
  | 0, _ => []
  | n + 1, s => (sxNext p s).2 :: sxOutputs p n (sxNext p s).1

/-- The three words `INIT` writes from SeedState `s` (R73): three successive expander outputs, the first to `fastCounter`,
the second to `mix`, the third to `loopMix` (R75). They are `Config.N_INIT` outputs of `sxOutputs` (`initTriple_words`). -/
def initTriple (p : Config) (s : Word) : GeneratorState :=
  let a := sxNext p s
  let b := sxNext p a.1
  let c := sxNext p b.1
  { fastCounter := a.2, mix := b.2, loopMix := c.2 }

/-- The Generator Core's `next()` (R72): the output and the new triple, every right-hand side from the old triple. -/
def genStep (p : Config) (g : GeneratorState) : Word × GeneratorState :=
  (add64 g.mix g.loopMix,
    { fastCounter := add64 g.fastCounter p.fcInc
      mix := add64 (rotl64 g.mix p.rotMix) (rotl64 g.loopMix p.rotLoop)
      loopMix := xor64 g.fastCounter g.mix })

end Sys2Proof.Machine
end

