-- ==== Sys2Proof/Machine/Flags.lean ====
section
/-!
DEFINITION. Every flag of the block: the two validity flags (R18), the three sticky fault flags with their causes and
codes (R19, R86), and the STATUS register (R20). There is no other flag (R19, R63).
-/

namespace Sys2Proof.Machine

/-- `SEED_VALID` (R18). -/
def State.seedValid (s : State) : Bool := s.seedState.isSome

/-- `GEN_VALID` (R18). -/
def State.genValid (s : State) : Bool := s.gen.isSome

/-- The cause code of a fault (R86); 0 is never reported. -/
def Cause.code : Cause → Word
  | .illegalCommand => 1
  | .seedNotLoaded => 2
  | .generatorNotSeeded => 3

/-- The sticky flag of a fault (R86): `F_ILL`, `F_NOSEED`, `F_NOGEN`. -/
def State.sticky (s : State) : Cause → Bool
  | .illegalCommand => s.fIll
  | .seedNotLoaded => s.fNoSeed
  | .generatorNotSeeded => s.fNoGen

/-- Setting the sticky flag of a fault (R19, R88 (2)); a flag already 1 stays 1 (R92). -/
def State.setSticky (s : State) : Cause → State
  | .illegalCommand => { s with fIll := true }
  | .seedNotLoaded => { s with fNoSeed := true }
  | .generatorNotSeeded => { s with fNoGen := true }

/-- The STATUS register (R20, R81): `zext_64({F_NOGEN, F_NOSEED, F_ILL, GEN_VALID, SEED_VALID})`. -/
def State.status (s : State) : Word :=
  (BitVec.ofBool s.fNoGen ++ BitVec.ofBool s.fNoSeed ++ BitVec.ofBool s.fIll ++ BitVec.ofBool s.genValid
    ++ BitVec.ofBool s.seedValid).setWidth 64

end Sys2Proof.Machine
end

