-- ==== Sys2Proof/Machine/Operands.lean ====
section
/-!
DEFINITION. The operands of the commands other than the seed in the command word: the implicit registers (R17, R44), under
the spec's names (R13, R14, R16) and by R8's alias x[0..3], and the fields of a response word (R42). A register whose
validity flag is 0 holds no value (R18).
-/

namespace Sys2Proof.Machine

/-- The register `fastCounter` (R14), `none` while it holds no value. -/
def State.fastCounter (s : State) : Option Word := s.gen.map GeneratorState.fastCounter

/-- The register `mix` (R14), `none` while it holds no value. -/
def State.mix (s : State) : Option Word := s.gen.map GeneratorState.mix

/-- The register `loopMix` (R14), `none` while it holds no value. -/
def State.loopMix (s : State) : Option Word := s.gen.map GeneratorState.loopMix

/-- The alias `x[i]` of the four data registers (R8). -/
def State.x (s : State) : Fin 4 → Option Word
  | 0 => s.fastCounter
  | 1 => s.mix
  | 2 => s.loopMix
  | 3 => s.seedState

/-- The response word `{err, data}` (R42). -/
def rspWord (err : Bool) (data : Word) : RspWord := BitVec.ofBool err ++ data

/-- `rsp_word[64]`, the field `err` (R42). -/
def rspErr (r : RspWord) : Bool := r.getLsbD 64

/-- `rsp_word[63:0]`, the field `data` (R42). -/
def rspData (r : RspWord) : Word := r.extractLsb' 0 64

end Sys2Proof.Machine
end

