-- ==== Sys2Proof/Machine/Ops.lean ====
section
/-!
DEFINITION. The named operations on the state that the meanings share: writing a data register, ending a command
(`respond OK(d)`, R8), fault entry (`raise`, R88; there is no return from a fault, R92), the reset of the block (R26, R101),
an idle port (R108) and the unspecified state of a block that has not been reset since power-up (R101, U13).
-/

namespace Sys2Proof.Machine

/-- `seedState <- d`, `SEED_VALID <- 1` (R68, R69). -/
def State.setSeed (s : State) (d : Word) : State := { s with seedState := some d }

/-- `SEED_VALID <- 0`: `seedState` holds no value until the next `SEED` (R16, R73). -/
def State.dropSeed (s : State) : State := { s with seedState := none }

/-- `fastCounter`, `mix` and `loopMix` written together, `GEN_VALID <- 1` (R73, R74). -/
def State.setGen (s : State) (g : GeneratorState) : State := { s with gen := some g }

/-- The response port drives `r` (R51). -/
def State.setRsp (s : State) (r : RspWord) : State := { s with rsp := some r }

/-- `respond OK(d)` (R8): the command ends with the response word `{0b0, d}` (R42). -/
def State.respondOk (s : State) (d : Word) : State := s.setRsp (rspWord false d)

/-- `raise <Fault>(c)`, fault entry, completely (R88): the sticky flag of the fault is set, the response word is
`{0b1, zext_64(c)}`, nothing else is written. -/
def State.raise (s : State) (c : Cause) : State := (s.setSticky c).setRsp (rspWord true c.code)

/-- A rising edge with `rst` = 1 (R101): the reset state of R26, `rsp_valid` = 0. What the host does later is the host's. -/
def State.resetBlock (s : State) : State :=
  { State.reset with host := s.host, freeCtr := s.freeCtr }

/-- A block not reset since power-up (R101, U13): the whole state, flags included, and the response port are unspecified,
so each is a free value of its own, fresh at every step (DESIGN CHOICE, safe, log entry 7). -/
def State.unspecified (s : State) : State where
  seedState := if Config.freeBit (7 * s.freeCtr) then some (Config.freeWord (5 * s.freeCtr)) else none
  gen :=
    if Config.freeBit (7 * s.freeCtr + 1) then
      some { fastCounter := Config.freeWord (5 * s.freeCtr + 1)
             mix := Config.freeWord (5 * s.freeCtr + 2)
             loopMix := Config.freeWord (5 * s.freeCtr + 3) }
    else none
  fIll := Config.freeBit (7 * s.freeCtr + 2)
  fNoSeed := Config.freeBit (7 * s.freeCtr + 3)
  fNoGen := Config.freeBit (7 * s.freeCtr + 4)
  rsp :=
    if Config.freeBit (7 * s.freeCtr + 5) then
      some (rspWord (Config.freeBit (7 * s.freeCtr + 6)) (Config.freeWord (5 * s.freeCtr + 4)))
    else none
  host := s.host
  resetDone := false
  freeCtr := s.freeCtr + 1

/-- The cycles in which the host presents nothing (R108): the block keeps its whole state (R99) and `rsp_valid` = 0 (R51).
Before the first reset after power-up the state is as unspecified as before (log entry 7). -/
def State.idleCycles (s : State) : State :=
  if s.resetDone then { s with rsp := none } else s.unspecified

end Sys2Proof.Machine
end

