-- ==== Sys2Proof/Machine/Parameters.lean ====
section
/-!
DEFINITION. The parameters the machine runs with: the values of R5 and R6.
-/

namespace Sys2Proof.Machine

/-- The values of R5, as printed (92_eei_decisions.md D17, D18; UNVERIFIED, unsafe, log entry 9), and of R6 (the three shift
amounts are the spec's "[from general knowledge, not in source]", D16; UNVERIFIED, unsafe, log entry 8). -/
def parameters : Config where
  sxGamma := 0x9e3779b97f4a7c15#64
  sxMul1 := 0xbf58476d1ce4e5b9#64
  sxMul2 := 0x94d049bb133111eb#64
  fcInc := 0x9999999999999999#64
  rotMix := 16
  rotLoop := 40
  sxShift1 := 30
  sxShift2 := 27
  sxShift3 := 31

end Sys2Proof.Machine
end

