-- ==== Sys2Proof/Machine/GeneratorCore.lean ====
section
/-!
DEFINITION. The Generator Core commands: `INIT` (R73) and `NEXT` (R74).
-/

namespace Sys2Proof.Machine

/-- `INIT` (R73): the triple from three successive expander outputs, the seed discarded, no data in the answer; without a
seed, `SeedNotLoaded`. -/
def execInit (s : State) : Host.Outcome State Fault Refusal :=
  match s.seedState with
  | none => .next (s.raise .seedNotLoaded)
  | some x => .next (((s.setGen (initTriple parameters x)).dropSeed).respondOk 0)

/-- `NEXT` (R74): the next output word, and the state advanced; without an initialised triple, `GeneratorNotSeeded`. -/
def execNext (s : State) : Host.Outcome State Fault Refusal :=
  match s.gen with
  | none => .next (s.raise .generatorNotSeeded)
  | some g => .next ((s.setGen (genStep parameters g).2).respondOk (genStep parameters g).1)

end Sys2Proof.Machine
end

