-- ==== Sys2Proof/Machine/SeedExpander.lean ====
section
/-!
DEFINITION. The Seed Expander commands: `SEED` (R68) and `SXNEXT` (R69).
-/

namespace Sys2Proof.Machine

/-- `SEED d` (R68): any 64-bit value, zero allowed; overwrites a seed already loaded; never faults. -/
def execSeed (d : Word) (s : State) : Host.Outcome State Fault Refusal :=
  .next ((s.setSeed d).respondOk 0)

/-- `SXNEXT` (R69): one expander `next()`; without a seed, `SeedNotLoaded`. -/
def execSxnext (s : State) : Host.Outcome State Fault Refusal :=
  match s.seedState with
  | none => .next (s.raise .seedNotLoaded)
  | some x => .next ((s.setSeed (sxNext parameters x).1).respondOk (sxNext parameters x).2)

end Sys2Proof.Machine
end

