-- ==== Sys2Proof/Machine/System.lean ====
section
/-!
DEFINITION. The system commands: `NOP` (R80), `RDSTAT` (R81) and the two reserved opcodes (R82).
-/

namespace Sys2Proof.Machine

/-- `NOP` (R80): answered, and nothing written. -/
def execNop (s : State) : Host.Outcome State Fault Refusal :=
  .next (s.respondOk 0)

/-- `RDSTAT` (R81): the flags as they are before the command; reading clears nothing. -/
def execRdstat (s : State) : Host.Outcome State Fault Refusal :=
  .next (s.respondOk s.status)

/-- The reserved opcode 0b110 (R82): `IllegalCommand`, always. -/
def execRsvd6 (s : State) : Host.Outcome State Fault Refusal :=
  .next (s.raise .illegalCommand)

/-- The reserved opcode 0b111 (R82): `IllegalCommand`, always. -/
def execRsvd7 (s : State) : Host.Outcome State Fault Refusal :=
  .next (s.raise .illegalCommand)

end Sys2Proof.Machine
end

