-- ==== Sys2Proof/Machine/Dispatch.lean ====
section
/-!
DEFINITION. `exec`: one arm per command of the opcode map (R43), each one call of that command's meaning.
-/

namespace Sys2Proof.Machine

def exec (i : Instr) (s : State) : Host.Outcome State Fault Refusal :=
  match i with
  | .nop => Sys2Proof.Machine.execNop s
  | .seed d => Sys2Proof.Machine.execSeed d s
  | .sxnext => Sys2Proof.Machine.execSxnext s
  | .init => Sys2Proof.Machine.execInit s
  | .next => Sys2Proof.Machine.execNext s
  | .rdstat => Sys2Proof.Machine.execRdstat s
  | .rsvd6 => Sys2Proof.Machine.execRsvd6 s
  | .rsvd7 => Sys2Proof.Machine.execRsvd7 s

end Sys2Proof.Machine
end

