-- ==== Sys2Proof/Machine/Port.lean ====
section
/-!
DEFINITION. The ports (R40, R48 to R51, R101 to R104, R108): what one move of the host does to the block. There is no
fetch (R21): the command executed is the one the host presents.
-/

namespace Sys2Proof.Machine

/-- The host's next move; a host whose list is exhausted presents nothing (R108, R112; log entry 2). -/
def State.nextMove (s : State) : HostMove := s.host.headD .idle

/-- The state once the host's next move has been taken off its list. -/
def State.takeMove (s : State) : State := { s with host := s.host.tail }

/-- A presented command is accepted and executed exactly once, on the state its predecessor left (R48, R50); before the
first reset after power-up such a run has no meaning and is refused (R101, U13; DEDUCED, safe, log entry 6). -/
def accept (w : CmdWord) (s : State) : Host.Outcome State Fault Refusal :=
  if s.resetDone then exec (decode w) s else .refused .notResetSincePowerUp

/-- What one move of the host does (R108). Reset wins over a presented command (R103) and over one in flight (R102), so
those two read nothing of the command, and any move may follow them: the duty of R104 (b) to hold a command presented at a
reset edge ends with that edge (DESIGN CHOICE, unsafe, log entry 16). -/
def advance (m : HostMove) (s : State) : Host.Outcome State Fault Refusal :=
  match m with
  | .present w => accept w s
  | .idle => .next s.idleCycles
  | .reset _ => .next s.resetBlock
  | .resetInFlight _ => .next s.resetBlock
  | .powerUp => .next s.unspecified

end Sys2Proof.Machine
end

