-- ==== Sys2Proof/Machine/Step.lean ====
section
/-!
DEFINITION. The step: one move of the host (R9, R108). The three outcomes of Host.Outcome.
-/

namespace Sys2Proof.Machine

/-- One step: the host's next move, taken off its list and carried out. -/
def step (s : State) : Host.Outcome State Fault Refusal :=
  advance s.nextMove s.takeMove

/-- `s` with the host about to present the command word `w` (bits above 67 are on no wire of the port, R41), to a block
that has been reset, so that the very next step accepts and executes it (DESIGN CHOICE, log entries 2 and 15). `nbits` says
nothing: there is one length (R47). -/
def State.withFetchWord (s : State) (_nbits w : Nat) : State :=
  { s with host := .present (BitVec.ofNat 67 w) :: s.host, resetDone := true }

end Sys2Proof.Machine
end

