-- ==== Sys2Proof/Machine/Assembler.lean ====
section
/-!
DEFINITION. The assembler of R52 and R53: from source text (a list of characters) to command words. Nothing of it is
hardware; it is the notation the spec's own programs (95_test_vectors.md) are written in.
-/

namespace Sys2Proof.Machine

/-- Why a source text is refused. -/
inductive AsmError where
  /-- The line is no mnemonic of R43 or R53 in its form (R52). -/
  | notALine
  /-- The operand is no literal of R52 (or, for `DRAW`, no decimal number, R53). -/
  | badLiteral
  /-- The literal does not fit in 64 bits (R52). -/
  | literalTooWide
  deriving DecidableEq, Repr

/-- The commands a source line stands for, pseudo-instructions expanded (R53). -/
def expand : SourceLine → List Instr
  | .nop => [.nop]
  | .seed n => [.seed (BitVec.ofNat 64 n)]
  | .sxnext => [.sxnext]
  | .init => [.init]
  | .next => [.next]
  | .rdstat => [.rdstat]
  | .rsvd6 => [.rsvd6]
  | .rsvd7 => [.rsvd7]
  | .seedinit n => [.seed (BitVec.ofNat 64 n), .init]
  | .draw n => List.replicate n .next

/-- The command words of a program (R52: one command per line, top to bottom); an ill-formed line is refused. -/
def assemble (lines : List SourceLine) : Except AsmError (List CmdWord) :=
  if lines.all SourceLine.wf then .ok ((lines.flatMap expand).map encode) else .error .literalTooWide

/-- The value of a decimal digit. -/
def decDigit (c : Char) : Option Nat :=
  if 48 ≤ c.toNat ∧ c.toNat ≤ 57 then some (c.toNat - 48) else none

/-- The value of a hexadecimal digit, in either case (DESIGN CHOICE, safe, log entry 10). -/
def hexDigit (c : Char) : Option Nat :=
  if 48 ≤ c.toNat ∧ c.toNat ≤ 57 then some (c.toNat - 48)
  else if 97 ≤ c.toNat ∧ c.toNat ≤ 102 then some (c.toNat - 87)
  else if 65 ≤ c.toNat ∧ c.toNat ≤ 70 then some (c.toNat - 55)
  else none

/-- The number written by digits, most significant first, in a base; `none` if one of them is no digit. -/
def digitsValue (digit : Char → Option Nat) (base : Nat) : List Char → Nat → Option Nat
  | [], acc => some acc
  | c :: cs, acc =>
    match digit c with
    | some d => digitsValue digit base cs (acc * base + d)
    | none => none

/-- A decimal number, at least one digit. -/
def decLiteral (cs : List Char) : Option Nat :=
  if cs.isEmpty then none else digitsValue decDigit 10 cs 0

/-- A literal of `SEED` or `SEEDINIT` (R52): `0x` and 1 to 16 hexadecimal digits, or decimal. -/
def literal (cs : List Char) : Option Nat :=
  match cs with
  | '0' :: 'x' :: ds => if 1 ≤ ds.length ∧ ds.length ≤ 16 then digitsValue hexDigit 16 ds 0 else none
  | _ => decLiteral cs

/-- The characters of a line before its comment (R52: `;` starts a comment that runs to the end of the line). -/
def dropComment : List Char → List Char
  | [] => []
  | c :: cs => if c = ';' then [] else c :: dropComment cs

/-- A line without the blanks at its end (DESIGN CHOICE, safe, log entry 10: blanks before a comment, or at the end of a line, mean nothing). -/
def dropTrailingBlanks : List Char → List Char
  | [] => []
  | c :: cs =>
    match dropTrailingBlanks cs with
    | [] => if c = ' ' ∨ c = '\t' then [] else [c]
    | d :: ds => c :: d :: ds

/-- The lines of a text. -/
def splitLines : List Char → List (List Char)
  | [] => [[]]
  | c :: cs =>
    match splitLines cs with
    | [] => [[c]]
    | l :: ls => if c = '\n' then [] :: l :: ls else (c :: l) :: ls

/-- The source line made from the literal an operand spells, with the check that it is well formed. -/
def lineWith (make : Nat → SourceLine) (operand : Option Nat) : Except AsmError SourceLine :=
  match operand with
  | none => .error .badLiteral
  | some n => if (make n).wf then .ok (make n) else .error .literalTooWide

/-- One line, comment and trailing blanks taken off (R52, R53): a mnemonic in upper case, followed, for the lines with an
operand, by one space and the operand. -/
def parseLine : List Char → Except AsmError SourceLine
  | ['N', 'O', 'P'] => .ok .nop
  | ['S', 'X', 'N', 'E', 'X', 'T'] => .ok .sxnext
  | ['I', 'N', 'I', 'T'] => .ok .init
  | ['N', 'E', 'X', 'T'] => .ok .next
  | ['R', 'D', 'S', 'T', 'A', 'T'] => .ok .rdstat
  | ['R', 'S', 'V', 'D', '6'] => .ok .rsvd6
  | ['R', 'S', 'V', 'D', '7'] => .ok .rsvd7
  | 'S' :: 'E' :: 'E' :: 'D' :: ' ' :: operand => lineWith .seed (literal operand)
  | 'S' :: 'E' :: 'E' :: 'D' :: 'I' :: 'N' :: 'I' :: 'T' :: ' ' :: operand => lineWith .seedinit (literal operand)
  | 'D' :: 'R' :: 'A' :: 'W' :: ' ' :: operand => lineWith .draw (decLiteral operand)
  | _ => .error .notALine

/-- The lines of a program; blank lines are ignored (R52). -/
def parseLines : List (List Char) → Except AsmError (List SourceLine)
  | [] => .ok []
  | l :: ls =>
    match dropTrailingBlanks (dropComment l) with
    | [] => parseLines ls
    | c :: cs =>
      match parseLine (c :: cs), parseLines ls with
      | .ok a, .ok rest => .ok (a :: rest)
      | .error e, _ => .error e
      | .ok _, .error e => .error e

/-- A source text to command words (R52, R53). -/
def assembleText (text : List Char) : Except AsmError (List CmdWord) :=
  match parseLines (splitLines text) with
  | .ok lines => assemble lines
  | .error e => .error e

end Sys2Proof.Machine
end

