-- ==== Sys2Proof/Machine/Run.lean ====
section
/-!
DEFINITION. Runs (R9, R34, R112): the block as R9's function from a state and a command word to a state and a response
word, its fold over the host's commands, and what a host sees of a run of `step`.
-/

namespace Sys2Proof.Machine

/-- R9's `step : State x Cmd -> State x Rsp`. Every command is answered (statement EveryCommandIsAnswered), so the last
line is never reached. -/
def blockStep (s : State) (w : CmdWord) : State × RspWord :=
  match exec (decode w) s with
  | .next t => (t, t.rsp.getD 0)
  | _ => (s, 0)

/-- R9's fold: the state after a list of accepted commands, and the responses in command order (R34). -/
def runBlock : State → List CmdWord → State × List RspWord
  | s, [] => (s, [])
  | s, w :: ws =>
    ((runBlock (blockStep s w).1 ws).1, (blockStep s w).2 :: (runBlock (blockStep s w).1 ws).2)

/-- The state after a list of accepted commands. -/
def after (s : State) (ws : List CmdWord) : State := (runBlock s ws).1

/-- The responses to a list of accepted commands. -/
def responses (s : State) (ws : List CmdWord) : List RspWord := (runBlock s ws).2

/-- The commands of a run, each with the response it got (R42: responses come in command order and need no tag). -/
def trace (s : State) (ws : List CmdWord) : List (Instr × RspWord) := (ws.map decode).zip (responses s ws)

/-- The responses to the `NEXT`s of a run. -/
def drawn (s : State) (ws : List CmdWord) : List RspWord :=
  (trace s ws).filterMap fun p => if p.1 = .next then some p.2 else none

/-- The command words of a list of moves. -/
def commandsOf : List HostMove → List CmdWord
  | [] => []
  | .present w :: ms => w :: commandsOf ms
  | .idle :: ms => commandsOf ms
  | .reset _ :: ms => commandsOf ms
  | .resetInFlight _ :: ms => commandsOf ms
  | .powerUp :: ms => commandsOf ms

/-- What the host samples on the response port in `k` steps (R51: each response is presented once; R104 (c)). -/
def observed : Nat → State → List RspWord
  | 0, _ => []
  | k + 1, s =>
    match step s with
    | .next t => t.rsp.toList ++ observed k t
    | _ => []

end Sys2Proof.Machine
end

