-- ==== Sys2Proof/Safety.lean ====
section
/-!
DEFINITION. The terms claims are made in: which fault a command meets (R86, R87), the phases of the start-up order (R105), the
state of the block without the ports (R13), the triples the generator can hold (R27 (a)) and the invariant every step
keeps.
-/

namespace Sys2Proof.Machine

/-- The fault a command meets in a state, by the tables of R86 and R87; the test is made on the state before it. -/
def faultOf : Instr → State → Option Cause
  | .nop, _ => none
  | .seed _, _ => none
  | .rdstat, _ => none
  | .sxnext, s => if s.seedValid then none else some .seedNotLoaded
  | .init, s => if s.seedValid then none else some .seedNotLoaded
  | .next, s => if s.genValid then none else some .generatorNotSeeded
  | .rsvd6, _ => some .illegalCommand
  | .rsvd7, _ => some .illegalCommand

/-- The four phases of R105, told apart by the two validity flags. -/
inductive Phase where
  /-- A: unseeded. -/
  | unseeded
  /-- B: seed loaded, generator not initialised. -/
  | seedLoaded
  /-- C: generating. -/
  | generating
  /-- D: generating, new seed loaded. -/
  | generatingNewSeed
  deriving DecidableEq, Repr

/-- The phase of a state (R105). -/
def State.phase (s : State) : Phase :=
  match s.seedValid, s.genValid with
  | false, false => .unseeded
  | true, false => .seedLoaded
  | false, true => .generating
  | true, true => .generatingNewSeed

/-- Two states agree on R13's record (the ports and the host's moves aside). -/
def SameBlock (s t : State) : Prop :=
  s.seedState = t.seedState ∧ s.gen = t.gen ∧ s.fIll = t.fIll ∧ s.fNoSeed = t.fNoSeed ∧ s.fNoGen = t.fNoGen

/-- The triple `n` `NEXT`s after a triple (R78's T(n)). -/
def tripleAfter (g : GeneratorState) : Nat → GeneratorState
  | 0 => g
  | n + 1 => (genStep parameters (tripleAfter g n)).2

/-- A triple the generator can hold: produced by `INIT` followed by zero or more `NEXT`s (R27 (a)). -/
def Produced (g : GeneratorState) : Prop := ∃ seed n, g = tripleAfter (initTriple parameters seed) n

/-- A response word the block can give: an answer, or an error with one of the cause codes of R86. -/
def LegalResponse (r : RspWord) : Prop := rspErr r = true → ∃ c : Cause, rspData r = c.code

/-- The invariant of the machine: once a reset has been applied, the generator holds only a triple that went through the
Seed Expander (R27 (a), R25), and the response port only a word the block can give (R86). -/
def State.Inv (s : State) : Prop :=
  s.resetDone = true → (∀ g, s.gen = some g → Produced g) ∧ (∀ r, s.rsp = some r → LegalResponse r)

end Sys2Proof.Machine
end

