-- ==== Sys2Proof/Certificates/Slice0/Obligations.lean ====
section
/-!
DEFINITION. The statements about the LoopMix128 PRNG core, for the provers. Each docstring names the rules it formalises;
OBLIGATIONS.json says, for each, whether it states the rule whole or rests on it.
-/

open Sys2Proof Sys2Proof.Machine

/-! ### Encoding (30_encoding.md) -/

/-- R41: the opcode field is bits 66:64 of a command word and the data field bits 63:0, bit by bit, and the word is
`{op, data}`. -/
def Obligations.CommandWordHasOpAboveData : Prop :=
  (∀ (w : CmdWord) (i : Nat), i < 3 → (cmdOp w).getLsbD i = w.getLsbD (64 + i)) ∧
  (∀ (w : CmdWord) (i : Nat), i < 64 → (cmdData w).getLsbD i = w.getLsbD i) ∧
  (∀ (op : BitVec 3) (d : Word), (cmdWord op d).toNat = op.toNat * 2 ^ 64 + d.toNat) ∧
  (∀ (op : BitVec 3) (d : Word), cmdOp (cmdWord op d) = op ∧ cmdData (cmdWord op d) = d)

/-- R43: every command word decodes to the one command whose `match` is the word under the `mask`, all eight values of `op`
listed; the operand of `SEED` is `cmd_word[63:0]`. -/
def Obligations.DecodeFollowsTheOpcodeMap : Prop :=
  ∀ w : CmdWord,
    (w &&& 0x70000000000000000#67 = 0x00000000000000000#67 ↔ decode w = .nop) ∧
    (w &&& 0x70000000000000000#67 = 0x10000000000000000#67 ↔ decode w = .seed (w.extractLsb' 0 64)) ∧
    (w &&& 0x70000000000000000#67 = 0x20000000000000000#67 ↔ decode w = .sxnext) ∧
    (w &&& 0x70000000000000000#67 = 0x30000000000000000#67 ↔ decode w = .init) ∧
    (w &&& 0x70000000000000000#67 = 0x40000000000000000#67 ↔ decode w = .next) ∧
    (w &&& 0x70000000000000000#67 = 0x50000000000000000#67 ↔ decode w = .rdstat) ∧
    (w &&& 0x70000000000000000#67 = 0x60000000000000000#67 ↔ decode w = .rsvd6) ∧
    (w &&& 0x70000000000000000#67 = 0x70000000000000000#67 ↔ decode w = .rsvd7)

/-- R45: the `data` field of a command other than `SEED` is ignored, all its values give the same command with the same
effect, and the encoder emits zeros there. -/
def Obligations.DataFieldIgnoredExceptBySeed : Prop :=
  (∀ (op : BitVec 3) (d e : Word), op ≠ 0b001#3 →
    decode (cmdWord op d) = decode (cmdWord op e) ∧
    ∀ s : State, exec (decode (cmdWord op d)) s = exec (decode (cmdWord op e)) s) ∧
  (∀ i : Instr, (∀ d, i ≠ .seed d) → cmdData (encode i) = 0)

/-- R41, R43, R52: decoding the word of a command gives the command back, whatever its operand; and the word of the command a
word decodes to is that word, but for the ignored `data` field, which is zero. -/
def Obligations.DecodeAndEncodeAgree : Prop :=
  (∀ i : Instr, decode (encode i) = i) ∧
  (∀ w : CmdWord, (∃ d, decode w = .seed d) → encode (decode w) = w) ∧
  (∀ w : CmdWord, (∀ d, decode w ≠ .seed d) → encode (decode w) = cmdWord (cmdOp w) 0) ∧
  (∀ v w : CmdWord, decode v = decode w ↔ cmdOp v = cmdOp w ∧ (cmdOp v = 0b001#3 → cmdData v = cmdData w))

/-- R43 on words written out from it: one for each opcode, with operand bits that are not all zero; and that the
model refuses a number of 68 bits (its own choice, log entry 15). -/
def Obligations.DecodedExampleWords : Prop :=
  decode 0x0ffffffffffffffff#67 = .nop ∧ decode 0x161c8864680b583eb#67 = .seed 0x61c8864680b583eb#64 ∧
  decode 0x2123456789abcdef0#67 = .sxnext ∧ decode 0x30000000000001234#67 = .init ∧
  decode 0x4ffffffffffffffff#67 = .next ∧ decode 0x50000000000000000#67 = .rdstat ∧
  decode 0x6deadbeefdeadbeef#67 = .rsvd6 ∧ decode 0x7ffffffffffffffff#67 = .rsvd7 ∧
  decodeTableWord 72 0x10000000000000001 = some (.seed 1#64) ∧ decodeTableWord 72 0x80000000000000000 = none

/-- R42: the response word is `{err, data}`; every command answers; with `err` = 0 the data is the result of the command, or
zero for a command with no result, with `err` = 1 the cause code of R86; and `err` is 1 exactly when the command faulted. -/
def Obligations.ResponseWordPerCommand : Prop :=
  (∀ (e : Bool) (d : Word), (rspWord e d).toNat = e.toNat * 2 ^ 64 + d.toNat ∧
    rspErr (rspWord e d) = e ∧ rspData (rspWord e d) = d) ∧
  (∀ (i : Instr) (s : State), ∃ t r, exec i s = .next t ∧ t.rsp = some r ∧
    (rspErr r = true ↔ ∃ c, faultOf i s = some c) ∧
    (∀ c, faultOf i s = some c → rspData r = c.code) ∧
    (rspErr r = false →
      match i with
      | .sxnext => ∃ x, s.seedState = some x ∧ rspData r = mix64 parameters (x + 0x9e3779b97f4a7c15#64)
      | .next => ∃ g, s.gen = some g ∧ rspData r = g.mix + g.loopMix
      | .rdstat => rspData r = s.status
      | _ => rspData r = 0))

/-- R46: opcodes 0b110 and 0b111 raise `IllegalCommand` and change nothing but `F_ILL`; no other command word does, whatever
the state. -/
def Obligations.OnlyReservedOpcodesAreIllegal : Prop :=
  ∀ (w : CmdWord) (s : State),
    ((cmdOp w = 0b110#3 ∨ cmdOp w = 0b111#3) →
      exec (decode w) s = .next { s with fIll := true, rsp := some 0x10000000000000001#65 }) ∧
    (cmdOp w ≠ 0b110#3 → cmdOp w ≠ 0b111#3 →
      ∃ t r, exec (decode w) s = .next t ∧ t.rsp = some r ∧ r ≠ 0x10000000000000001#65 ∧ t.fIll = s.fIll)

/-! ### Assembler (30_encoding.md R52, R53) -/

/-- R53: `SEEDINIT imm64` is `SEED imm64` then `INIT`; `DRAW n` is `n` `NEXT`s, `DRAW 0` nothing; neither has an encoding
of its own (their words are words of `SEED`, `INIT`, `NEXT`). -/
def Obligations.PseudoInstructionsExpand : Prop :=
  (∀ n, assemble [.seedinit n] = assemble [.seed n, .init]) ∧
  (∀ n, n < 2 ^ 64 →
    assemble [.seedinit n] = .ok [cmdWord 0b001#3 (BitVec.ofNat 64 n), 0x30000000000000000#67]) ∧
  (∀ n, assemble [.draw n] = .ok (List.replicate n 0x40000000000000000#67)) ∧
  assemble [.draw 0] = .ok []

/-- R52, R53: a program of well-formed lines is assembled, in line order, each line to the words written out here; the words
decode to the program's commands, and the `data` of every command but `SEED` is zero; a program with a literal of more than
64 bits is refused (for a decimal literal that is the model's choice, log entry 10). -/
def Obligations.AssembledWordsDecodeToTheProgram : Prop :=
  ∀ lines : List SourceLine,
    ((∀ l ∈ lines, l.wf = true) →
      assemble lines = .ok (lines.flatMap fun
        | .nop => [0x00000000000000000#67]
        | .seed n => [0b001#3 ++ BitVec.ofNat 64 n]
        | .sxnext => [0x20000000000000000#67]
        | .init => [0x30000000000000000#67]
        | .next => [0x40000000000000000#67]
        | .rdstat => [0x50000000000000000#67]
        | .rsvd6 => [0x60000000000000000#67]
        | .rsvd7 => [0x70000000000000000#67]
        | .seedinit n => [0b001#3 ++ BitVec.ofNat 64 n, 0x30000000000000000#67]
        | .draw n => List.replicate n 0x40000000000000000#67) ∧
      ∃ ws, assemble lines = .ok ws ∧ ws.map decode = lines.flatMap expand ∧
        ∀ w ∈ ws, (∀ d, decode w ≠ .seed d) → cmdData w = 0) ∧
    ((∃ l ∈ lines, l.wf = false) → ∃ e, assemble lines = .error e)

/-! ### Datapath (40_arithmetic.md) -/

/-- R54: the sum modulo 2^64, with its examples. -/
def Obligations.AddIsModulo64Bits : Prop :=
  (∀ a b : Word, (add64 a b).toNat = (a.toNat + b.toNat) % 2 ^ 64) ∧
  add64 0xfedcba9876543210#64 0x0f1e2d3c4b5a6978#64 = 0x0dfae7d4c1ae9b88#64 ∧
  add64 0xffffffffffffffff#64 0x0000000000000001#64 = 0x0000000000000000#64 ∧
  add64 0x6666666666666667#64 0x9999999999999999#64 = 0x0000000000000000#64

/-- R55: the low 64 bits of the product, the same whether the operands are read as unsigned or as signed, with its
examples. -/
def Obligations.MulKeepsTheLow64Bits : Prop :=
  (∀ a b : Word, (mul64 a b).toNat = (a.toNat * b.toNat) % 2 ^ 64 ∧ mul64 a b = BitVec.ofInt 64 (a.toInt * b.toInt)) ∧
  (∀ b : Word, mul64 0 b = 0) ∧
  mul64 0x0000000000000001#64 0xbf58476d1ce4e5b9#64 = 0xbf58476d1ce4e5b9#64 ∧
  mul64 0x0000000000000002#64 0xbf58476d1ce4e5b9#64 = 0x7eb08eda39c9cb72#64 ∧
  mul64 0xfffffffc00000000#64 0xbf58476d1ce4e5b9#64 = 0x8c6c691c00000000#64 ∧
  mul64 0x9e3779bb07979af0#64 0xbf58476d1ce4e5b9#64 = 0x6f68261b57e7a770#64

/-- R56, R57, R58: exclusive or bit by bit; the logical right shift as a floor and bit by bit; the left shift modulo 2^64 and
bit by bit; with their examples. -/
def Obligations.XorAndShiftsBitByBit : Prop :=
  (∀ (a b : Word) (i : Nat), i < 64 → (xor64 a b).getLsbD i = (a.getLsbD i ^^ b.getLsbD i)) ∧
  xor64 0x0123456789abcdef#64 0xfedcba9876543210#64 = 0xffffffffffffffff#64 ∧
  (∀ (a : Word) (k : Nat), k < 64 → (shr64 a k).toNat = a.toNat / 2 ^ k ∧
    ∀ i, i < 64 → (shr64 a k).getLsbD i = if i + k ≤ 63 then a.getLsbD (i + k) else false) ∧
  (∀ a : Word, shr64 a 0 = a) ∧
  shr64 0xffffffffffffffff#64 30 = 0x00000003ffffffff#64 ∧ shr64 0x8000000000000000#64 31 = 0x0000000100000000#64 ∧
  (∀ (a : Word) (k : Nat), k < 64 → (shl64 a k).toNat = (a.toNat * 2 ^ k) % 2 ^ 64 ∧
    ∀ i, i < 64 → (shl64 a k).getLsbD i = if k ≤ i then a.getLsbD (i - k) else false) ∧
  (∀ a : Word, shl64 a 0 = a)

/-- R59: rotation bit by bit, for every amount (D27), the shift formula for 1 to 63, the identity at 0, the round trip of
the document's "Rotation correctness" for every amount below 64, and the rule's examples. -/
def Obligations.RotationBitByBitAndRoundTrip : Prop :=
  (∀ (x : Word) (k i : Nat), i < 64 → (rotl64 x k).getLsbD ((i + k) % 64) = x.getLsbD i) ∧
  (∀ (x : Word) (k : Nat), 1 ≤ k → k ≤ 63 → rotl64 x k = shl64 x k ||| shr64 x (64 - k)) ∧
  (∀ x : Word, rotl64 x 0 = x) ∧
  (∀ (x : Word) (k : Nat), rotl64 x k = rotl64 x (k % 64)) ∧
  (∀ (x : Word) (k : Nat), k < 64 → rotl64 (rotl64 x k) ((64 - k) % 64) = x) ∧
  rotl64 0x0000000000000001#64 16 = 0x0000000000010000#64 ∧ rotl64 0x0000000000000001#64 40 = 0x0000010000000000#64 ∧
  rotl64 0x8000000000000000#64 16 = 0x0000000000008000#64 ∧ rotl64 0x8000000000000000#64 40 = 0x0000008000000000#64 ∧
  rotl64 0x0123456789abcdef#64 16 = 0x456789abcdef0123#64 ∧ rotl64 0x0123456789abcdef#64 40 = 0xabcdef0123456789#64 ∧
  rotl64 0x0123456789abcdef#64 63 = 0x8091a2b3c4d5e6f7#64 ∧ rotl64 0x0123456789abcdef#64 0 = 0x0123456789abcdef#64

/-- The XOR-shift and the five stages of the avalanche function, with the four rows of R61's table (40_arithmetic.md, R60
and R61). The right shift and the amounts 30, 27, 31 are what the spec marks "[from general knowledge, not in source]"
(93_implementation_defined.md G1, G2; log entry 8); the worked outputs that other statements repeat from R67, R68, R69, R70,
R73 and R74 rest on them too. -/
def Obligations.AvalancheStagesAndWorkedValues : Prop :=
  (∀ (z : Word) (k : Nat), xsr z k = xor64 z (shr64 z k)) ∧
  xsr 0xffffffffffffffff#64 30 = 0xfffffffc00000000#64 ∧ xsr 0x9e3779b97f4a7c15#64 30 = 0x9e3779bb07979af0#64 ∧
  xsr 0x0000000000000001#64 30 = 0x0000000000000001#64 ∧
  (∀ z z1 z2 z3 z4 : Word, z1 = xsr z 30 → z2 = mul64 z1 0xbf58476d1ce4e5b9#64 → z3 = xsr z2 27 →
    z4 = mul64 z3 0x94d049bb133111eb#64 → mix64 parameters z = xsr z4 31) ∧
  (xsr 0x0000000000000000#64 30 = 0x0000000000000000#64 ∧ mix64 parameters 0x0000000000000000#64 = 0x0000000000000000#64) ∧
  (mul64 0x0000000000000001#64 0xbf58476d1ce4e5b9#64 = 0xbf58476d1ce4e5b9#64 ∧
    xsr 0xbf58476d1ce4e5b9#64 27 = 0xbf58477af7ec081a#64 ∧
    mul64 0xbf58477af7ec081a#64 0x94d049bb133111eb#64 = 0x5692161dbd2f29de#64 ∧
    mix64 parameters 0x0000000000000001#64 = 0x5692161d100b05e5#64) ∧
  (mul64 0x9e3779bb07979af0#64 0xbf58476d1ce4e5b9#64 = 0x6f68261b57e7a770#64 ∧
    xsr 0x6f68261b57e7a770#64 27 = 0x6f682616bae3641a#64 ∧
    mul64 0x6f682616bae3641a#64 0x94d049bb133111eb#64 = 0xe220a838bf5c9dde#64 ∧
    mix64 parameters 0x9e3779b97f4a7c15#64 = 0xe220a8397b1dcdaf#64) ∧
  (mul64 0xfffffffc00000000#64 0xbf58476d1ce4e5b9#64 = 0x8c6c691c00000000#64 ∧
    xsr 0x8c6c691c00000000#64 27 = 0x8c6c690d8d8d2380#64 ∧
    mul64 0x8c6c690d8d8d2380#64 0x94d049bb133111eb#64 = 0xb4d055fd9b6b1680#64 ∧
    mix64 parameters 0xffffffffffffffff#64 = 0xb4d055fcf2cbbd7b#64)

/-- R64: XOR-shift by 1 to 63 and multiplication by an odd number are bijections that keep 0, hence so is `mix64`, for every
well-formed configuration and in particular the machine's own, and it is 0 only at 0; rotation, addition and exclusive
or with a constant are bijections. -/
def Obligations.DatapathMapsAreBijections : Prop :=
  (∀ k, 1 ≤ k → k ≤ 63 → Function.Bijective (fun z => xsr z k) ∧ xsr 0 k = 0 ∧
    ∀ (z : Word) (i : Nat), 64 - k ≤ i → i < 64 → (xsr z k).getLsbD i = z.getLsbD i) ∧
  (∀ m : Word, m.getLsbD 0 = true → Function.Bijective (fun z => mul64 z m) ∧ mul64 0 m = 0) ∧
  (∀ p : Config, p.wf = true → Function.Bijective (mix64 p) ∧ ∀ z, mix64 p z = 0 ↔ z = 0) ∧
  parameters.wf = true ∧
  (∀ k, Function.Bijective (fun z => rotl64 z k)) ∧
  (∀ c : Word, Function.Bijective (fun z => add64 z c) ∧ Function.Bijective (fun z => xor64 z c))

/-- R65: adding an odd constant is one cycle through all values of the width, for every width (so for the reduced-width
surrogates), `fcInc` and `sxGamma` are odd, `SXNEXT` repeated takes `seedState` through all 2^64 values, and `NEXT`
repeated takes `fastCounter` through all 2^64 values. -/
def Obligations.OddIncrementHasFullPeriod : Prop :=
  (∀ (k : Nat) (c x : BitVec k), c.getLsbD 0 = true →
    (∀ n, (fun y => y + c)^[n] x = x + BitVec.ofNat k n * c) ∧
    (∀ n, (fun y => y + c)^[n] x = x ↔ 2 ^ k ∣ n) ∧
    (∀ y, ∃ n, n < 2 ^ k ∧ (fun y => y + c)^[n] x = y)) ∧
  parameters.fcInc.getLsbD 0 = true ∧ parameters.sxGamma.getLsbD 0 = true ∧
  (∀ (s : State) (x y : Word), s.seedState = some x →
    ∃ n, n < 2 ^ 64 ∧ (after s (List.replicate n (encode .sxnext))).seedState = some y) ∧
  (∀ (s : State) (g : GeneratorState) (y : Word), s.gen = some g →
    ∃ n, n < 2 ^ 64 ∧ (after s (List.replicate n (encode .next))).fastCounter = some y)

/-! ### The pure functions (41_seed_expander.md R67, 42_generator_core.md R72) -/

/-- R67: the expander adds its constant first and mixes the updated value; the stored SeedState is the incremented, unmixed
value; the mixing is two rounds of XOR-shift and multiplication by the two constants in order, and one more XOR-shift; with
the rule's example (its output rests on the spec's shift amounts, log entry 8). -/
def Obligations.ExpanderIncrementsThenMixes : Prop :=
  (∀ s : Word, sxNext parameters s =
    (add64 s 0x9e3779b97f4a7c15#64, mix64 parameters (add64 s 0x9e3779b97f4a7c15#64))) ∧
  (∃ i j k : Nat, 1 ≤ i ∧ i ≤ 63 ∧ 1 ≤ j ∧ j ≤ 63 ∧ 1 ≤ k ∧ k ≤ 63 ∧ ∀ z : Word, mix64 parameters z =
    xsr (mul64 (xsr (mul64 (xsr z i) 0xbf58476d1ce4e5b9#64) j) 0x94d049bb133111eb#64) k) ∧
  sxNext parameters 0x0000000000000001#64 = (0x9e3779b97f4a7c16#64, 0x910a2dec89025cc1#64)

/-- R72: output and new triple, every right-hand side from the old triple; the output does not involve `fastCounter`; the
old `fastCounter` is in the next output; with the rule's example and its rotations. -/
def Obligations.GeneratorStepReadsOnlyTheOldTriple : Prop :=
  (∀ fc mx lm : Word, genStep parameters ⟨fc, mx, lm⟩ =
    (add64 mx lm, ⟨add64 fc 0x9999999999999999#64, add64 (rotl64 mx 16) (rotl64 lm 40), xor64 fc mx⟩)) ∧
  (∀ fc fc' mx lm : Word, (genStep parameters ⟨fc, mx, lm⟩).1 = (genStep parameters ⟨fc', mx, lm⟩).1) ∧
  (∀ fc fc' mx lm : Word, fc ≠ fc' →
    (genStep parameters (genStep parameters ⟨fc, mx, lm⟩).2).1 ≠
      (genStep parameters (genStep parameters ⟨fc', mx, lm⟩).2).1) ∧
  genStep parameters ⟨0x0123456789abcdef#64, 0xfedcba9876543210#64, 0x0f1e2d3c4b5a6978#64⟩ =
    (0x0dfae7d4c1ae9b88#64, ⟨0x9abcdf0123456788#64, 0x1501ee63503e3b27#64, 0xffffffffffffffff#64⟩) ∧
  rotl64 0xfedcba9876543210#64 16 = 0xba9876543210fedc#64 ∧ rotl64 0x0f1e2d3c4b5a6978#64 40 = 0x5a69780f1e2d3c4b#64

/-! ### The commands (41, 42, 43): each completes, with its whole effect; all else is as before -/

/-- R80: every word with op 0b000 is `NOP`; it answers zero and writes nothing, so a `NOP` before a `NEXT` does not change
what the `NEXT` does. -/
def Obligations.NopAnswersAndWritesNothing : Prop :=
  (∀ d : Word, decode (cmdWord 0b000#3 d) = .nop) ∧
  (∀ s : State, exec .nop s = .next { s with rsp := some 0x00000000000000000#65 }) ∧
  (∀ s t : State, exec .nop s = .next t → exec .next t = exec .next s)

/-- R68: every word with op 0b001 is `SEED` of its data; `SEED d` loads `d`, whatever was loaded and whatever the generator
holds, and answers zero; everything else is as before. The seed 0 gives the first output the rule names (it rests on the
spec's shift amounts, log entry 8), and the rule's example. -/
def Obligations.SeedLoadsTheSeed : Prop :=
  (∀ d : Word, decode (cmdWord 0b001#3 d) = .seed d) ∧
  (∀ (d : Word) (s : State),
    exec (.seed d) s = .next { s with seedState := some d, rsp := some 0x00000000000000000#65 }) ∧
  (∀ s : State, responses s [0x10000000000000000#67, 0x20000000000000000#67] =
    [0x00000000000000000#65, 0x0e220a8397b1dcdaf#65]) ∧
  (∃ t, exec (decode 0x10000000000000001#67) State.reset = .next t ∧ t.rsp = some 0x00000000000000000#65 ∧
    t.seedState = some 1#64 ∧ t.status = 0x01#64)

/-- R69: every word with op 0b010 is `SXNEXT`; with a seed it advances `seedState` by the constant and answers the mixed new
value, everything else as before (so it may be issued again); without one it sets `F_NOSEED` and answers cause 2, everything
else as before. Corner cases (a) to (d) and the example (their non-zero outputs rest on the spec's shift amounts, log
entry 8). -/
def Obligations.SxnextAdvancesTheSeedOrFaults : Prop :=
  (∀ d : Word, decode (cmdWord 0b010#3 d) = .sxnext) ∧
  (∀ (s : State) (x : Word), s.seedState = some x →
    exec .sxnext s = .next { s with
      seedState := some (x + 0x9e3779b97f4a7c15#64)
      rsp := some (rspWord false (mix64 parameters (x + 0x9e3779b97f4a7c15#64))) }) ∧
  (∀ s : State, s.seedState = none →
    exec .sxnext s = .next { s with fNoSeed := true, rsp := some 0x10000000000000002#65 }) ∧
  sxNext parameters 0xffffffffffffffff#64 = (0x9e3779b97f4a7c14#64, 0xe4d971771b652c20#64) ∧
  sxNext parameters 0x61c8864680b583eb#64 = (0#64, 0#64) ∧
  (∀ x : Word, (sxNext parameters x).2 = 0#64 ↔ x = 0x61c8864680b583eb#64) ∧
  (∀ (s t : State) (x : Word), s.seedState = some x → exec .sxnext s = .next t →
    ∃ u, exec .init t = .next u ∧ u.gen = some (initTriple parameters (x + 0x9e3779b97f4a7c15#64))) ∧
  (∀ s : State, responses s [0x10000000000000001#67, 0x20000000000000000#67] =
      [0x00000000000000000#65, 0x0910a2dec89025cc1#65] ∧
    (after s [0x10000000000000001#67, 0x20000000000000000#67]).seedState = some 0x9e3779b97f4a7c16#64)

/-- R73, R75: every word with op 0b011 is `INIT`; with a seed `x` the three words are the next three expander outputs, first to
`fastCounter`, second to `mix`, third to `loopMix`, whatever the generator held before; the seed is discarded, the answer
is zero, everything else as before; at most one of the words is 0, so the triple is never all zero (R27 (b)), and one can be;
a second `INIT` then faults; without a seed it sets `F_NOSEED` and answers cause 2,
everything else as before. The worked triples of corner case (d) and of the example rest on the spec's shift amounts (log
entry 8). -/
def Obligations.InitTakesThreeOutputsOrFaults : Prop :=
  (∀ d : Word, decode (cmdWord 0b011#3 d) = .init) ∧
  (∀ (s : State) (x : Word), s.seedState = some x →
    exec .init s = .next { s with
      seedState := none
      gen := some { fastCounter := mix64 parameters (x + 0x9e3779b97f4a7c15#64)
                    mix := mix64 parameters (x + 2 * 0x9e3779b97f4a7c15#64)
                    loopMix := mix64 parameters (x + 3 * 0x9e3779b97f4a7c15#64) }
      rsp := some 0x00000000000000000#65 }) ∧
  (∀ s : State, s.seedState = none →
    exec .init s = .next { s with fNoSeed := true, rsp := some 0x10000000000000002#65 }) ∧
  (∀ s t : State, exec .init s = .next t →
    exec .init t = .next { t with fNoSeed := true, rsp := some 0x10000000000000002#65 }) ∧
  (∀ (s t : State) (g : GeneratorState), s.seedState ≠ none → exec .init s = .next t → t.gen = some g →
    ¬(g.fastCounter = 0 ∧ g.mix = 0) ∧ ¬(g.mix = 0 ∧ g.loopMix = 0) ∧ ¬(g.fastCounter = 0 ∧ g.loopMix = 0)) ∧
  initTriple parameters 0x61c8864680b583eb#64 = ⟨0#64, 0xe220a8397b1dcdaf#64, 0x6e789e6aa1b965f4#64⟩ ∧
  (∃ t, exec (decode 0x30000000000000000#67) (after State.reset [0x10000000000000001#67]) = .next t ∧
    t.rsp = some 0x00000000000000000#65 ∧ t.status = 0x02#64 ∧
    t.gen = some ⟨0x910a2dec89025cc1#64, 0xbeeb8da1658eec67#64, 0xf893a2eefb32555e#64⟩)

/-- R74: every word with op 0b100 is `NEXT`; with an initialised triple it answers `mix + loopMix` and advances the triple,
everything else as before, so it can be issued again; without one it sets `F_NOGEN` and answers cause 3, everything else as
before. Corner cases (b), (c), (f) and the example (which rests on the spec's shift amounts, log entry 8). -/
def Obligations.NextDrawsAndAdvancesOrFaults : Prop :=
  (∀ d : Word, decode (cmdWord 0b100#3 d) = .next) ∧
  (∀ (s : State) (g : GeneratorState), s.gen = some g →
    exec .next s = .next { s with
      gen := some { fastCounter := g.fastCounter + 0x9999999999999999#64
                    mix := rotl64 g.mix 16 + rotl64 g.loopMix 40
                    loopMix := g.fastCounter ^^^ g.mix }
      rsp := some (rspWord false (g.mix + g.loopMix)) }) ∧
  (∀ s : State, s.gen = none →
    exec .next s = .next { s with fNoGen := true, rsp := some 0x10000000000000003#65 }) ∧
  (∀ fc mx : Word, (genStep parameters ⟨fc, mx, -mx⟩).1 = 0#64) ∧
  (∀ mx lm : Word, (genStep parameters ⟨0x6666666666666667#64, mx, lm⟩).2.fastCounter = 0#64) ∧
  genStep parameters ⟨0#64, 0#64, 0#64⟩ = (0#64, ⟨0x9999999999999999#64, 0#64, 0#64⟩) ∧
  (genStep parameters (tripleAfter ⟨0#64, 0#64, 0#64⟩ 1)).1 = 0#64 ∧
  (genStep parameters (tripleAfter ⟨0#64, 0#64, 0#64⟩ 2)).1 = 0x9999999999999999#64 ∧
  (∃ t, exec (decode 0x40000000000000000#67) (after State.reset [0x10000000000000001#67, 0x30000000000000000#67]) =
      .next t ∧ t.rsp = some 0x0b77f309060c141c5#65 ∧
    add64 0xbeeb8da1658eec67#64 0xf893a2eefb32555e#64 = 0xb77f309060c141c5#64 ∧
    t.gen = some ⟨0x2aa3c786229bf65a#64, 0xbff6c487800aade6#64, 0x2fe1a04dec8cb0a6#64⟩)

/-- R81: every word with op 0b101 is `RDSTAT`; it answers the five flags as they are, zero-extended, and writes nothing (the
sticky flags keep their value); with the rule's examples. -/
def Obligations.RdstatReadsTheFlags : Prop :=
  (∀ d : Word, decode (cmdWord 0b101#3 d) = .rdstat) ∧
  (∀ s : State, exec .rdstat s = .next { s with rsp := some (rspWord false
    ((BitVec.ofBool s.fNoGen ++ BitVec.ofBool s.fNoSeed ++ BitVec.ofBool s.fIll ++ BitVec.ofBool s.genValid
      ++ BitVec.ofBool s.seedValid).setWidth 64)) }) ∧
  responses State.reset [0x50000000000000000#67] = [0x00000000000000000#65] ∧
  responses State.reset [0x10000000000000001#67, 0x30000000000000000#67, 0x50000000000000000#67] =
    [0x00000000000000000#65, 0x00000000000000000#65, 0x00000000000000002#65] ∧
  responses State.reset [0x40000000000000000#67, 0x50000000000000000#67] =
    [0x10000000000000003#65, 0x00000000000000010#65]

/-- R82: every word with op 0b110 or 0b111 is a reserved opcode; it sets `F_ILL` and answers cause 1, always, and everything
else is as before. -/
def Obligations.ReservedOpcodesFault : Prop :=
  (∀ d : Word, decode (cmdWord 0b110#3 d) = .rsvd6 ∧ decode (cmdWord 0b111#3 d) = .rsvd7) ∧
  (∀ s : State, exec .rsvd6 s = .next { s with fIll := true, rsp := some 0x10000000000000001#65 }) ∧
  (∀ s : State, exec .rsvd7 s = .next { s with fIll := true, rsp := some 0x10000000000000001#65 }) ∧
  (∃ t, exec (decode 0x6deadbeefdeadbeef#67) State.reset = .next t ∧ t.rsp = some 0x10000000000000001#65 ∧
    t.status.getLsbD 2 = true)

/-- R31, R9: every command is answered, in every state, with exactly one response word, so `blockStep` is R9's total
function. -/
def Obligations.EveryCommandIsAnswered : Prop :=
  ∀ (w : CmdWord) (s : State),
    exec (decode w) s = .next (blockStep s w).1 ∧ (blockStep s w).1.rsp = some (blockStep s w).2

/-- R17: what each command may write; on a fault, its sticky flag and nothing else. The response port is written by every
command (R51). -/
def Obligations.CommandsWriteOnlyWhatTheTableSays : Prop :=
  ∀ (i : Instr) (s : State), ∃ t, exec i s = .next t ∧
    match i with
    | .nop => t = { s with rsp := t.rsp }
    | .seed _ => t = { s with seedState := t.seedState, rsp := t.rsp } ∧ t.seedValid = true
    | .sxnext =>
      if s.seedValid then t = { s with seedState := t.seedState, rsp := t.rsp } ∧ t.seedValid = true
      else t = { s with fNoSeed := true, rsp := t.rsp }
    | .init =>
      if s.seedValid then
        t = { s with seedState := t.seedState, gen := t.gen, rsp := t.rsp } ∧ t.seedValid = false ∧ t.genValid = true
      else t = { s with fNoSeed := true, rsp := t.rsp }
    | .next =>
      if s.genValid then t = { s with gen := t.gen, rsp := t.rsp } ∧ t.genValid = true
      else t = { s with fNoGen := true, rsp := t.rsp }
    | .rdstat => t = { s with rsp := t.rsp }
    | .rsvd6 => t = { s with fIll := true, rsp := t.rsp }
    | .rsvd7 => t = { s with fIll := true, rsp := t.rsp }

/-- R17: what each command may read. In two states that agree on it, a command gives the same response and writes the
same values: to the registers and validity flags, and, where it meets a fault (the same in both), to the sticky flag. -/
def Obligations.CommandsReadOnlyWhatTheTableSays : Prop :=
  ∀ (i : Instr) (s s' : State),
    (match i with
      | .sxnext => s.seedState = s'.seedState
      | .init => s.seedState = s'.seedState
      | .next => s.gen = s'.gen
      | .rdstat => s.seedValid = s'.seedValid ∧ s.genValid = s'.genValid ∧ ∀ c, s.sticky c = s'.sticky c
      | _ => True) →
    ∃ t t', exec i s = .next t ∧ exec i s' = .next t' ∧ t.rsp = t'.rsp ∧
      faultOf i s = faultOf i s' ∧ (∀ c, faultOf i s = some c → t.sticky c = t'.sticky c) ∧
      (match i with
        | .seed _ => t.seedState = t'.seedState
        | .sxnext => t.seedState = t'.seedState
        | .init => t.seedState = t'.seedState ∧ (s.seedValid = true → t.gen = t'.gen)
        | .next => t.gen = t'.gen
        | _ => True)

/-- R31: `NOP` and `RDSTAT` have no side effect and are idempotent, and `SEED d; SEED d` leaves what `SEED d` leaves, while
`SXNEXT` always changes `seedState` and `NEXT` always changes the triple. -/
def Obligations.IdempotentAndNotIdempotentCommands : Prop :=
  (∀ i s, i = Instr.nop ∨ i = Instr.rdstat →
    ∃ t, exec i s = .next t ∧ SameBlock s t ∧ exec i t = .next t) ∧
  (∀ d s, ∃ t, exec (.seed d) s = .next t ∧ exec (.seed d) t = .next t) ∧
  (∀ s x, s.seedState = some x → ∃ t, exec .sxnext s = .next t ∧ t.seedState ≠ s.seedState) ∧
  (∀ s g, s.gen = some g → ∃ t, exec .next s = .next t ∧ t.gen ≠ s.gen)

/-! ### Flags, STATUS and faults (10_state.md, 60_exceptions.md) -/

/-- R20: the five fields of STATUS at their bits, zero above them, and zero after reset. -/
def Obligations.StatusBits : Prop :=
  (∀ s : State, s.status.getLsbD 0 = s.seedState.isSome ∧ s.status.getLsbD 1 = s.gen.isSome ∧
    s.status.getLsbD 2 = s.fIll ∧ s.status.getLsbD 3 = s.fNoSeed ∧ s.status.getLsbD 4 = s.fNoGen ∧
    ∀ k, 5 ≤ k → k ≤ 63 → s.status.getLsbD k = false) ∧
  State.reset.status = 0

/-- R19: a sticky flag is set by the fault of its name, in the step of the fault response, and by nothing else; no command
clears one, nor does an idle host, and reset clears all three; only `RDSTAT`'s answer depends on them, and no command's
effect on the registers and validity flags does. -/
def Obligations.StickyFlagsOnlyRecord : Prop :=
  (∀ (i : Instr) (s : State), ∃ t, exec i s = .next t ∧
    ∀ c, (t.sticky c = true ↔ s.sticky c = true ∨ faultOf i s = some c)) ∧
  (∀ (i : Instr) (s : State) (a b c : Bool),
    ∃ t t', exec i s = .next t ∧ exec i { s with fIll := a, fNoSeed := b, fNoGen := c } = .next t' ∧
      t.seedState = t'.seedState ∧ t.gen = t'.gen ∧ (i ≠ .rdstat → t.rsp = t'.rsp)) ∧
  (∀ (s : State) (rest : List HostMove), s.resetDone = true →
    ∃ t, step { s with host := .idle :: rest } = .next t ∧ ∀ c, t.sticky c = s.sticky c) ∧
  (∀ (s : State) (p : Option CmdWord) (rest : List HostMove),
    ∃ t, step { s with host := .reset p :: rest } = .next t ∧ ∀ c, t.sticky c = false)

/-- R86, R87: the cause codes; which command raises which fault and when, tested on the state before; a command that meets no
fault answers `err` = 0, one that meets a fault answers its cause code and sets its STATUS bit; cause code 0 never; nothing
else is recorded: a faulting command changes its sticky flag and the response and nothing else. -/
def Obligations.FaultsExactlyAsTabulated : Prop :=
  (Cause.illegalCommand.code = 1 ∧ Cause.seedNotLoaded.code = 2 ∧ Cause.generatorNotSeeded.code = 3) ∧
  (∀ (i : Instr) (s : State), ∃ t r, exec i s = .next t ∧ t.rsp = some r ∧
    (rspErr r = true ↔
      i = .rsvd6 ∨ i = .rsvd7 ∨ ((i = .sxnext ∨ i = .init) ∧ s.seedValid = false) ∨ (i = .next ∧ s.genValid = false)) ∧
    (rspErr r = true → rspData r ≠ 0 ∧
      ((i = .rsvd6 ∨ i = .rsvd7) →
        rspData r = 1 ∧ t.status.getLsbD 2 = true ∧ t = { s with fIll := true, rsp := some r }) ∧
      ((i = .sxnext ∨ i = .init) →
        rspData r = 2 ∧ t.status.getLsbD 3 = true ∧ t = { s with fNoSeed := true, rsp := some r }) ∧
      (i = .next →
        rspData r = 3 ∧ t.status.getLsbD 4 = true ∧ t = { s with fNoGen := true, rsp := some r })))

/-- R88: fault entry. A command that meets a fault leaves the data registers and validity flags as they were, sets the one
sticky flag, answers `{1, code}`, changes nothing else, and the next command presented is executed normally on that state. -/
def Obligations.FaultEntryIsPrecise : Prop :=
  ∀ (i : Instr) (s : State) (c : Cause), faultOf i s = some c →
    ∃ t, exec i s = .next t ∧ t.seedState = s.seedState ∧ t.gen = s.gen ∧
      (∀ d, t.sticky d = (decide (d = c) || s.sticky d)) ∧
      t.rsp = some (rspWord true c.code) ∧ t.host = s.host ∧ t.resetDone = s.resetDone ∧ t.freeCtr = s.freeCtr ∧
      (∀ (w : CmdWord) (rest : List HostMove), s.resetDone = true → s.host = .present w :: rest →
        step t = exec (decode w) { t with host := rest })

/-- R85: once its validity precondition holds, no value of a register or of a seed makes `SEED`, `SXNEXT`, `INIT` or `NEXT`
fault. -/
def Obligations.NoDataMakesACommandFault : Prop :=
  ∀ (i : Instr) (s : State),
    (match i with
      | .seed _ => True
      | .sxnext => s.seedValid = true
      | .init => s.seedValid = true
      | .next => s.genValid = true
      | _ => False) →
    ∃ t r, exec i s = .next t ∧ t.rsp = some r ∧ rspErr r = false ∧ ∀ c, t.sticky c = s.sticky c

/-- R25: no command but `SXNEXT` and `NEXT` answers with anything of a data register: its answer is settled by the flags; and
no command but `INIT` and `NEXT` changes the triple. -/
def Obligations.DataRegistersAreNotReadBack : Prop :=
  (∀ (i : Instr) (s s' : State), i ≠ .sxnext → i ≠ .next →
    s.seedValid = s'.seedValid → s.genValid = s'.genValid → (∀ c, s.sticky c = s'.sticky c) →
    ∃ t t', exec i s = .next t ∧ exec i s' = .next t' ∧ t.rsp = t'.rsp) ∧
  (∀ (i : Instr) (s : State), i ≠ .init → i ≠ .next → ∃ t, exec i s = .next t ∧ t.gen = s.gen)

/-- R18, R13: the flags record the history since reset. `SEED_VALID` is 1 exactly when a `SEED` has completed and no `INIT` has
completed without fault since the most recent one; `GEN_VALID` exactly when an `INIT` has completed without fault; a
sticky flag exactly when a fault of its name has been answered. -/
def Obligations.FlagsRecordTheHistory : Prop :=
  ∀ ws : List CmdWord,
    ((after State.reset ws).seedValid = true ↔
      ∃ before d r later, trace State.reset ws = before ++ (Instr.seed d, r) :: later ∧
        (∀ p ∈ later, ∀ e, p.1 ≠ .seed e) ∧ ∀ p ∈ later, p.1 = .init → rspErr p.2 = true) ∧
    ((after State.reset ws).genValid = true ↔
      ∃ p ∈ trace State.reset ws, p.1 = .init ∧ rspErr p.2 = false) ∧
    (∀ c, (after State.reset ws).sticky c = true ↔
      ∃ p ∈ trace State.reset ws, rspErr p.2 = true ∧ rspData p.2 = c.code)

/-- R105: the phases and the commands that move between them, which commands succeed and which fault in each, reset to phase
A, and the minimum sequence from reset to the first output. -/
def Obligations.StartUpPhases : Prop :=
  (∀ (i : Instr) (s : State), ∃ t, exec i s = .next t ∧
    t.phase = (match i, s.phase with
      | .seed _, .unseeded => .seedLoaded
      | .seed _, .generating => .generatingNewSeed
      | .init, .seedLoaded => .generating
      | .init, .generatingNewSeed => .generating
      | _, p => p)) ∧
  (∀ (i : Instr) (s : State), ∃ t r, exec i s = .next t ∧ t.rsp = some r ∧
    (match i, s.phase with
      | .nop, _ => rspErr r = false
      | .seed _, _ => rspErr r = false
      | .rdstat, _ => rspErr r = false
      | .sxnext, .seedLoaded => rspErr r = false
      | .sxnext, .generatingNewSeed => rspErr r = false
      | .sxnext, _ => r = 0x10000000000000002#65
      | .init, .seedLoaded => rspErr r = false
      | .init, .generatingNewSeed => rspErr r = false
      | .init, _ => r = 0x10000000000000002#65
      | .next, .generating => rspErr r = false
      | .next, .generatingNewSeed => rspErr r = false
      | .next, _ => r = 0x10000000000000003#65
      | .rsvd6, _ => r = 0x10000000000000001#65
      | .rsvd7, _ => r = 0x10000000000000001#65)) ∧
  (∀ (s : State) (p : Option CmdWord) (rest : List HostMove), ∃ t,
    step { s with host := .reset p :: rest } = .next t ∧ t.phase = .unseeded) ∧
  (∀ d : Word, ∃ a b r, responses State.reset [encode (.seed d), encode .init, encode .next] = [a, b, r] ∧
    rspErr a = false ∧ rspErr b = false ∧ rspErr r = false)

/-! ### Laws of the streams (41 R70, 42 R75 to R78, 10 R27, 20 R34) -/

/-- R70: after `SEED d`, the k-th expander output is `mix64(d + k * SX_GAMMA)` and `seedState` is then `d + k * SX_GAMMA`, by
`SXNEXT` or inside an `INIT` that follows; outputs for distinct k in 1..2^64 differ; the first three for the seeds 0 and 1 are
the rule's (they rest on the spec's shift amounts, log entry 8). -/
def Obligations.ExpanderSequenceLaw : Prop :=
  (∀ (s : State) (d : Word) (k : Nat),
    responses s (encode (.seed d) :: List.replicate k (encode .sxnext)) =
      rspWord false 0 :: (List.range k).map (fun j =>
        rspWord false (mix64 parameters (add64 d (BitVec.ofNat 64 (j + 1) * 0x9e3779b97f4a7c15#64)))) ∧
    (after s (encode (.seed d) :: List.replicate k (encode .sxnext))).seedState =
      some (add64 d (BitVec.ofNat 64 k * 0x9e3779b97f4a7c15#64)) ∧
    (after s (encode (.seed d) :: List.replicate k (encode .sxnext) ++ [encode .init])).gen = some
      { fastCounter := mix64 parameters (add64 d (BitVec.ofNat 64 (k + 1) * 0x9e3779b97f4a7c15#64))
        mix := mix64 parameters (add64 d (BitVec.ofNat 64 (k + 2) * 0x9e3779b97f4a7c15#64))
        loopMix := mix64 parameters (add64 d (BitVec.ofNat 64 (k + 3) * 0x9e3779b97f4a7c15#64)) }) ∧
  (∀ (d : Word) (j k : Nat), 1 ≤ j → j ≤ 2 ^ 64 → 1 ≤ k → k ≤ 2 ^ 64 → j ≠ k →
    mix64 parameters (add64 d (BitVec.ofNat 64 j * 0x9e3779b97f4a7c15#64)) ≠
      mix64 parameters (add64 d (BitVec.ofNat 64 k * 0x9e3779b97f4a7c15#64))) ∧
  (responses State.reset [0x10000000000000000#67, 0x20000000000000000#67, 0x20000000000000000#67, 0x20000000000000000#67] =
    [0x00000000000000000#65, 0x0e220a8397b1dcdaf#65, 0x06e789e6aa1b965f4#65, 0x006c45d188009454f#65]) ∧
  (responses State.reset [0x10000000000000001#67, 0x20000000000000000#67, 0x20000000000000000#67, 0x20000000000000000#67] =
    [0x00000000000000000#65, 0x0910a2dec89025cc1#65, 0x0beeb8da1658eec67#65, 0x0f893a2eefb32555e#65])

/-- R27 (c): `n` `NEXT`s advance `fastCounter` by `n * FC_INC`, every one answered without fault. -/
def Obligations.FastCounterAfterDraws : Prop :=
  ∀ (s : State) (g : GeneratorState) (n : Nat), s.gen = some g →
    (after s (List.replicate n (encode .next))).fastCounter =
      some (add64 g.fastCounter (BitVec.ofNat 64 n * 0x9999999999999999#64)) ∧
    ∀ r ∈ responses s (List.replicate n (encode .next)), rspErr r = false

/-- R77: once `GEN_VALID` = 1, no list of commands ends the stream: the flag stays 1 and every `NEXT` is answered without
fault. -/
def Obligations.TheStreamNeverEnds : Prop :=
  ∀ (s : State) (ws : List CmdWord), s.genValid = true →
    (after s ws).genValid = true ∧ ∀ p ∈ trace s ws, p.1 = .next → rspErr p.2 = false

/-- R78: as long as no `INIT` succeeds, the i-th `NEXT` after the triple `g` answers the output of `g` advanced i - 1 times,
whatever other commands lie between the `NEXT`s, and the triple is then `g` advanced as often as `NEXT` was issued. -/
def Obligations.DrawsDependOnlyOnTheTriple : Prop :=
  ∀ (s : State) (g : GeneratorState) (ws : List CmdWord), s.gen = some g →
    (∀ p ∈ trace s ws, p.1 = .init → rspErr p.2 = true) →
    drawn s ws = (List.range ((ws.map decode).count .next)).map
      (fun n => rspWord false (genStep parameters (tripleAfter g n)).1) ∧
    (after s ws).gen = some (tripleAfter g ((ws.map decode).count .next)) ∧
    ∀ n, (tripleAfter g n).fastCounter = add64 g.fastCounter (BitVec.ofNat 64 n * 0x9999999999999999#64)

/-- R76: `SEED x; INIT; NEXT x n` gives the same responses in every state, so on every instance and after every history: the
outputs of the triple that seed gives. -/
def Obligations.SeedDeterminesTheStream : Prop :=
  ∀ (s : State) (x : Word) (n : Nat),
    responses s (encode (.seed x) :: encode .init :: List.replicate n (encode .next)) =
      rspWord false 0 :: rspWord false 0 :: (List.range n).map
        (fun k => rspWord false (genStep parameters (tripleAfter (initTriple parameters x) k)).1)

/-- R106: there is no warm-up. The first `NEXT` after `INIT` answers the sum of the second and the third expander output. -/
def Obligations.FirstDrawIsTheSumOfTheInitialWords : Prop :=
  ∀ (s : State) (x : Word), s.seedState = some x →
    responses s [encode .init, encode .next] =
      [rspWord false 0, rspWord false (mix64 parameters (x + 2 * 0x9e3779b97f4a7c15#64) +
        mix64 parameters (x + 3 * 0x9e3779b97f4a7c15#64))]

/-- R34, of the machine that steps. What the host sees of its first moves is the same whatever moves come after, from every
state and for every kind of move. In a block that has been reset, to which the host presents commands with any idle cycles
between: as many responses as commands; the responses are settled by the block's state (R13) and the commands alone, whatever
the idle cycles, the last response and the later moves; and the next command is executed on exactly the state its predecessors
left, which does not depend on it, and its response comes after theirs. -/
def Obligations.ResponsesDependOnEarlierCommandsOnly : Prop :=
  (∀ (s : State) (ms rest : List HostMove),
    observed ms.length { s with host := ms ++ rest } = observed ms.length { s with host := ms }) ∧
  (∀ (s s' : State) (ms ms' rest rest' : List HostMove), s.resetDone = true → s'.resetDone = true → SameBlock s s' →
    (∀ m ∈ ms, m = .idle ∨ ∃ w, m = .present w) → (∀ m ∈ ms', m = .idle ∨ ∃ w, m = .present w) →
    commandsOf ms = commandsOf ms' →
    observed ms.length { s with host := ms ++ rest } = observed ms'.length { s' with host := ms' ++ rest' } ∧
    (observed ms.length { s with host := ms ++ rest }).length = (commandsOf ms).length) ∧
  (∀ (s : State) (ms : List HostMove), s.resetDone = true → (∀ m ∈ ms, m = .idle ∨ ∃ w, m = .present w) →
    ∃ t : State, ∀ (w : CmdWord) (rest : List HostMove),
      Host.Core.run Sys2Proof.core ms.length { s with host := ms ++ .present w :: rest } =
        .next { t with host := .present w :: rest } ∧
      step { t with host := .present w :: rest } = exec (decode w) { t with host := rest } ∧
      ∃ u r, exec (decode w) { t with host := rest } = .next u ∧ u.rsp = some r ∧
        observed (ms.length + 1) { s with host := ms ++ .present w :: rest } =
          observed ms.length { s with host := ms } ++ [r])

/-! ### Steps: the ports and reset (30 R48 to R51, 70) -/

/-- R50: a step at which the host presents a command word executes the command it decodes to, once, on the state before,
the host's move taken off its list; so with the word of a command. -/
def Obligations.StepExecutesThePresentedCommand : Prop :=
  (∀ (s : State) (w : CmdWord) (rest : List HostMove), s.resetDone = true →
    step { s with host := .present w :: rest } = exec (decode w) { s with host := rest }) ∧
  (∀ (s : State) (i : Instr) (rest : List HostMove), s.resetDone = true → i.wf = true →
    step { s with host := .present (encode i) :: rest } = exec i { s with host := rest })

/-- R26: the state after reset. The five flags and STATUS are 0 and the four data registers hold no value. -/
def Obligations.ResetStateHoldsNoValues : Prop :=
  State.reset.seedValid = false ∧ State.reset.genValid = false ∧ State.reset.fIll = false ∧
  State.reset.fNoSeed = false ∧ State.reset.fNoGen = false ∧ State.reset.status = 0x0000000000000000#64 ∧
  (∀ k : Fin 4, State.reset.x k = none)

/-- R101: a rising edge with `rst` = 1 gives the reset state of R26 from every state, one not reset since power-up included;
`rsp_valid` is 0, and the next command presented is accepted (also where it is another than one presented at the edge: that
the edge ends the duty to hold that one is the model's choice, log entry 16). -/
def Obligations.ResetEdgeGivesTheResetState : Prop :=
  ∀ (s : State) (p : Option CmdWord) (rest : List HostMove), ∃ t,
    step { s with host := .reset p :: rest } = .next t ∧ SameBlock t State.reset ∧ t.rsp = none ∧
    t.resetDone = true ∧ t.host = rest ∧
    ∀ (w : CmdWord) (later : List HostMove), rest = .present w :: later →
      step t = exec (decode w) { t with host := later }

/-- R102: a command in flight when reset comes gives no response, and none of its register writes survive; the block is then
in the reset state, and the next command presented is accepted. -/
def Obligations.ResetAbandonsACommandInFlight : Prop :=
  ∀ (s : State) (w : CmdWord) (rest : List HostMove), ∃ t,
    step { s with host := .resetInFlight w :: rest } = .next t ∧ t.rsp = none ∧ SameBlock t State.reset ∧
    t.resetDone = true ∧ t.host = rest ∧
    ∀ (v : CmdWord) (later : List HostMove), rest = .present v :: later →
      step t = exec (decode v) { t with host := later }

/-- R103: a command presented at a reset edge is not accepted: the step is that of a reset with nothing presented. -/
def Obligations.ResetWinsOverAPresentedCommand : Prop :=
  ∀ (s : State) (w : CmdWord) (rest : List HostMove),
    step { s with host := .reset (some w) :: rest } = step { s with host := .reset none :: rest } ∧
    ∃ t, step { s with host := .reset (some w) :: rest } = .next t ∧ t.rsp = none ∧ SameBlock t State.reset ∧
      t.resetDone = true ∧ t.host = rest

/-- R101, R19, R105: of the moves a host can make to a block that has been reset, only reset (and the loss of power) clears a
sticky fault flag or `GEN_VALID`. -/
def Obligations.OnlyResetClearsStickyFlagsAndGenValid : Prop :=
  ∀ s t : State, s.resetDone = true → step s = .next t →
    (∃ p, s.nextMove = .reset p) ∨ (∃ w, s.nextMove = .resetInFlight w) ∨ s.nextMove = .powerUp ∨
    ((∀ c, s.sticky c = true → t.sticky c = true) ∧ (s.genValid = true → t.genValid = true) ∧ t.resetDone = true)

/-- R108, R99: a host that presents nothing changes nothing in the block, and no response is presented; so it is when the
host's list is exhausted (R112; that an empty list idles is the model's choice, log entry 2). -/
def Obligations.IdleBlockKeepsItsState : Prop :=
  (∀ (s : State) (rest : List HostMove), s.resetDone = true →
    step { s with host := .idle :: rest } = .next { s with host := rest, rsp := none }) ∧
  (∀ s : State, s.resetDone = true → s.host = [] → step s = .next { s with rsp := none })

/-- R77, R112, U13: no step ends in a fault, and a step is refused in one case only: a command presented before the first
reset after power-up (the model's treatment of R101's unspecified state, log entry 6). -/
def Obligations.StepStopsOnlyBeforeTheFirstReset : Prop :=
  (∀ (s : State) (r : Fault), step s ≠ .fault r) ∧
  (∀ (s : State) (r : Refusal), step s = .refused r ↔
    r = .notResetSincePowerUp ∧ s.resetDone = false ∧ ∃ w, s.nextMove = .present w) ∧
  (∀ (s : State) (rest : List HostMove), ∃ t,
    step { s with host := .powerUp :: rest } = .next t ∧ t.resetDone = false ∧ t.host = rest)

/-- R107, R9, R50: the machine that steps is the fold of R9. Whatever commands the host presents, with whatever idle cycles
between them, the block reaches the state the fold reaches, and the host sees the fold's responses, in order. -/
def Obligations.HostGapsDoNotMatter : Prop :=
  ∀ (s : State) (ms rest : List HostMove), s.resetDone = true →
    (∀ m ∈ ms, m = .idle ∨ ∃ w, m = .present w) →
    (∃ t : State, Host.Core.run Sys2Proof.core ms.length { s with host := ms ++ rest } = .next t ∧
      SameBlock t (after s (commandsOf ms)) ∧ t.host = rest ∧ t.resetDone = true) ∧
    observed ms.length { s with host := ms ++ rest } = responses s (commandsOf ms)

/-! ### The invariant -/

/-- R27 (a): the invariant of the machine holds at reset. -/
def Obligations.ResetMeetsTheInvariant : Prop := State.reset.Inv

/-- R27 (a), R25, R86: every step keeps the invariant, from every state that meets it: the generator holds only a triple that
`INIT` produced from some seed, advanced by zero or more `NEXT`s, and the response port only a word the block can give. -/
def Obligations.EveryStepKeepsTheInvariant : Prop :=
  ∀ s t : State, s.Inv → step s = .next t → t.Inv

/-! ### Parameters, and the model's own way of placing a command -/

/-- R5: every constant with its printed value and the property rules rely on, and what `W`, `N_GEN` and `N_INIT` count: the bits
of a data word, the words of a GeneratorState, the expander outputs of one initialisation. -/
def Obligations.ParametersOfTheDocument : Prop :=
  (Config.W = 64 ∧ Config.N_GEN = 3 ∧ Config.N_INIT = 3) ∧
  (parameters.sxGamma = 0x9e3779b97f4a7c15#64 ∧ parameters.sxMul1 = 0xbf58476d1ce4e5b9#64 ∧
    parameters.sxMul2 = 0x94d049bb133111eb#64 ∧ parameters.fcInc = 0x9999999999999999#64 ∧
    parameters.rotMix = 16 ∧ parameters.rotLoop = 40) ∧
  (parameters.sxGamma.getLsbD 0 = true ∧ parameters.sxMul1.getLsbD 0 = true ∧ parameters.sxMul2.getLsbD 0 = true ∧
    parameters.fcInc.getLsbD 0 = true ∧ parameters.rotMix < 64 ∧ parameters.rotLoop < 64) ∧
  Word = BitVec Config.W ∧
  (∀ g : GeneratorState, g.words = [g.fastCounter, g.mix, g.loopMix] ∧ g.words.length = Config.N_GEN) ∧
  (∀ (s t : State) (x : Word), s.seedState = some x → exec .init s = .next t →
    t.gen.map GeneratorState.words = some (sxOutputs parameters Config.N_INIT x))

/-- The model's own `withFetchWord` (log entries 2 and 15): the very next step runs the instruction the number decodes to, on
the state as it was; so from the state after reset. -/
def Obligations.WithFetchWordRunsTheInstruction : Prop :=
  (∀ (s : State) (nbits w : Nat) (i : Instr), s.resetDone = true → decodeTableWord nbits w = some i →
    step (s.withFetchWord nbits w) = exec i s) ∧
  (∀ (nbits w : Nat) (i : Instr), decodeTableWord nbits w = some i →
    step (State.reset.withFetchWord nbits w) = exec i State.reset)
end

