-- ==== Sys2Proof/Laws/Datapath.lean ====
section
/-!
SUPPORT. The widths and counts of R5 and R6 are those of the types and of the datapath.
-/

namespace Sys2Proof

theorem word_width : Word = BitVec Config.W := rfl
theorem cmdWord_width : CmdWord = BitVec Config.CMD_W := rfl
theorem rspWord_width : RspWord = BitVec Config.RSP_W := rfl

namespace Machine

@[simp] theorem GeneratorState.words_length (g : GeneratorState) : g.words.length = Config.N_GEN := rfl

@[simp] theorem sxOutputs_zero (p : Config) (s : Word) : sxOutputs p 0 s = [] := rfl
@[simp] theorem sxOutputs_succ (p : Config) (n : Nat) (s : Word) :
    sxOutputs p (n + 1) s = (sxNext p s).2 :: sxOutputs p n (sxNext p s).1 := rfl

@[simp] theorem sxOutputs_length (p : Config) (n : Nat) (s : Word) : (sxOutputs p n s).length = n := by
  induction n generalizing s with
  | zero => simp
  | succ n ih => simp [ih]

/-- One initialisation consumes `N_INIT` successive expander outputs, in order (R5, R73, R75). -/
theorem initTriple_words (p : Config) (s : Word) : (initTriple p s).words = sxOutputs p Config.N_INIT s := rfl

end Machine
end Sys2Proof
end

