-- ==== Sys2Proof/Laws/Encoding.lean ====
section
/-!
SUPPORT. The fields of command words and of response words: the bits of a word assembled from fields, that its fields are
given back, and that a word is made of its fields.
-/

namespace Sys2Proof

/-- The bits of `{op, data}` (R41). -/
theorem cmdWord_bit (op : BitVec 3) (d : Word) (i : Nat) :
    (cmdWord op d).getLsbD i = if i < 64 then d.getLsbD i else op.getLsbD (i - 64) :=
  BitVec.getLsbD_append

/-- The bits of the opcode field (R41). -/
theorem cmdOp_bit (w : CmdWord) (i : Nat) : (cmdOp w).getLsbD i = (decide (i < 3) && w.getLsbD (64 + i)) :=
  BitVec.getLsbD_extractLsb' ..

/-- The bits of the data field (R41). -/
theorem cmdData_bit (w : CmdWord) (i : Nat) : (cmdData w).getLsbD i = (decide (i < 64) && w.getLsbD i) := by
  rw [cmdData, BitVec.getLsbD_extractLsb', Nat.zero_add]

@[simp] theorem cmdOp_cmdWord (op : BitVec 3) (d : Word) : cmdOp (cmdWord op d) = op :=
  BitVec.eq_of_getLsbD_eq fun i hi => by simp only [cmdOp_bit, cmdWord_bit, hi, decide_true, Bool.true_and]; simp

@[simp] theorem cmdData_cmdWord (op : BitVec 3) (d : Word) : cmdData (cmdWord op d) = d :=
  BitVec.eq_of_getLsbD_eq fun i hi => by simp only [cmdData_bit, cmdWord_bit, hi, if_true, decide_true, Bool.true_and]

/-- A command word is made of its two fields (R41). -/
theorem cmdWord_fields (w : CmdWord) : cmdWord (cmdOp w) (cmdData w) = w :=
  BitVec.eq_of_getLsbD_eq fun i hi => by
    rw [cmdWord_bit]
    by_cases h : i < 64
    · simp only [h, if_true, cmdData_bit, decide_true, Bool.true_and]
    · have h3 : i - 64 < 3 := by omega
      have h64 : 64 + (i - 64) = i := by omega
      simp only [h, if_false, cmdOp_bit, h3, decide_true, Bool.true_and, h64]

namespace Machine

/-- The bits of `{err, data}` (R42). -/
theorem rspWord_bit (e : Bool) (d : Word) (i : Nat) :
    (rspWord e d).getLsbD i = if i < 64 then d.getLsbD i else (BitVec.ofBool e).getLsbD (i - 64) :=
  BitVec.getLsbD_append

/-- The bits of the field `data` of a response word (R42). -/
theorem rspData_bit (r : RspWord) (i : Nat) : (rspData r).getLsbD i = (decide (i < 64) && r.getLsbD i) := by
  rw [rspData, BitVec.getLsbD_extractLsb', Nat.zero_add]

@[simp] theorem rspErr_rspWord (e : Bool) (d : Word) : rspErr (rspWord e d) = e := by
  rw [rspErr, rspWord_bit]
  cases e <;> rfl

@[simp] theorem rspData_rspWord (e : Bool) (d : Word) : rspData (rspWord e d) = d :=
  BitVec.eq_of_getLsbD_eq fun i hi => by simp only [rspData_bit, rspWord_bit, hi, if_true, decide_true, Bool.true_and]

/-- A response word is made of its two fields (R42). -/
theorem rspWord_fields (r : RspWord) : rspWord (rspErr r) (rspData r) = r :=
  BitVec.eq_of_getLsbD_eq fun i hi => by
    rw [rspWord_bit]
    by_cases h : i < 64
    · simp only [h, if_true, rspData_bit, decide_true, Bool.true_and]
    · obtain rfl : i = 64 := by omega
      rw [if_neg (by omega), rspErr]
      cases r.getLsbD 64 <;> rfl

end Machine

end Sys2Proof
end

