-- ==== Sys2Proof/Laws/PerInstr.lean ====
section
/-!
SUPPORT. Statements made per command. Family EncodedFields: a command is well formed, and the word the assembler emits
for it (R52) has its opcode in bits 66:64 and its operand, or zeros, in bits 63:0 (R41, R45).
-/

namespace Sys2Proof.Laws.EncodedFields

/-- The command is well formed, and the two fields of its word are its opcode and its operand. -/
def Statement (i : Instr) : Prop := i.wf = true ∧ cmdOp (encode i) = i.opcode ∧ cmdData (encode i) = i.data

/-- The word of any command is `{op, data}`. -/
theorem fields_of_encode (i : Instr) : cmdOp (encode i) = i.opcode ∧ cmdData (encode i) = i.data :=
  ⟨cmdOp_cmdWord _ _, cmdData_cmdWord _ _⟩

theorem nop : Statement .nop := ⟨rfl, fields_of_encode _⟩
theorem seed (d : Word) : Statement (.seed d) := ⟨rfl, fields_of_encode _⟩
theorem sxnext : Statement .sxnext := ⟨rfl, fields_of_encode _⟩
theorem init : Statement .init := ⟨rfl, fields_of_encode _⟩
theorem next : Statement .next := ⟨rfl, fields_of_encode _⟩
theorem rdstat : Statement .rdstat := ⟨rfl, fields_of_encode _⟩
theorem rsvd6 : Statement .rsvd6 := ⟨rfl, fields_of_encode _⟩
theorem rsvd7 : Statement .rsvd7 := ⟨rfl, fields_of_encode _⟩

end Sys2Proof.Laws.EncodedFields
end

