-- ==== Sys2Proof/Laws/Run.lean ====
section
/-!
SUPPORT. The equations of a run (R9's fold), one per constructor of the list of commands, and the triple's successors from the other end.
-/

namespace Sys2Proof.Machine

/-- What one command of the fold is, once `exec` has answered. -/
theorem blockStep_of_next {s t : State} {w : CmdWord} {r : RspWord} (h : exec (decode w) s = .next t)
    (hr : t.rsp = some r) : blockStep s w = (t, r) := by
  simp [blockStep, h, hr]

@[simp] theorem after_nil (s : State) : after s [] = s := rfl
@[simp] theorem after_cons (s : State) (w : CmdWord) (ws : List CmdWord) :
    after s (w :: ws) = after (blockStep s w).1 ws := rfl

@[simp] theorem responses_nil (s : State) : responses s [] = [] := rfl
@[simp] theorem responses_cons (s : State) (w : CmdWord) (ws : List CmdWord) :
    responses s (w :: ws) = (blockStep s w).2 :: responses (blockStep s w).1 ws := rfl

@[simp] theorem trace_nil (s : State) : trace s [] = [] := rfl
@[simp] theorem trace_cons (s : State) (w : CmdWord) (ws : List CmdWord) :
    trace s (w :: ws) = (decode w, (blockStep s w).2) :: trace (blockStep s w).1 ws := rfl

/-- Advancing first and then `n` times is advancing `n + 1` times. -/
theorem tripleAfter_genStep (g : GeneratorState) (n : Nat) :
    tripleAfter (genStep parameters g).2 n = tripleAfter g (n + 1) := by
  induction n with
  | zero => simp only [tripleAfter]
  | succ n ih =>
    show (genStep parameters (tripleAfter (genStep parameters g).2 n)).2 = (genStep parameters (tripleAfter g (n + 1))).2
    rw [ih]

end Sys2Proof.Machine
end

