-- ==== Sys2Proof/Laws/State.lean ====
section
/-!
SUPPORT. One lemma per field of State and update of it, true by rfl, so that no proof unfolds a record update.
-/

namespace Sys2Proof.Machine

@[simp] theorem State.setSeed_seedState (s : State) (d : Word) : (s.setSeed d).seedState = some d := rfl
@[simp] theorem State.setSeed_gen (s : State) (d : Word) : (s.setSeed d).gen = s.gen := rfl
@[simp] theorem State.setSeed_fIll (s : State) (d : Word) : (s.setSeed d).fIll = s.fIll := rfl
@[simp] theorem State.setSeed_fNoSeed (s : State) (d : Word) : (s.setSeed d).fNoSeed = s.fNoSeed := rfl
@[simp] theorem State.setSeed_fNoGen (s : State) (d : Word) : (s.setSeed d).fNoGen = s.fNoGen := rfl
@[simp] theorem State.setSeed_rsp (s : State) (d : Word) : (s.setSeed d).rsp = s.rsp := rfl
@[simp] theorem State.setSeed_host (s : State) (d : Word) : (s.setSeed d).host = s.host := rfl
@[simp] theorem State.setSeed_resetDone (s : State) (d : Word) : (s.setSeed d).resetDone = s.resetDone := rfl
@[simp] theorem State.setSeed_freeCtr (s : State) (d : Word) : (s.setSeed d).freeCtr = s.freeCtr := rfl

@[simp] theorem State.dropSeed_seedState (s : State) : (s.dropSeed).seedState = none := rfl
@[simp] theorem State.dropSeed_gen (s : State) : (s.dropSeed).gen = s.gen := rfl
@[simp] theorem State.dropSeed_fIll (s : State) : (s.dropSeed).fIll = s.fIll := rfl
@[simp] theorem State.dropSeed_fNoSeed (s : State) : (s.dropSeed).fNoSeed = s.fNoSeed := rfl
@[simp] theorem State.dropSeed_fNoGen (s : State) : (s.dropSeed).fNoGen = s.fNoGen := rfl
@[simp] theorem State.dropSeed_rsp (s : State) : (s.dropSeed).rsp = s.rsp := rfl
@[simp] theorem State.dropSeed_host (s : State) : (s.dropSeed).host = s.host := rfl
@[simp] theorem State.dropSeed_resetDone (s : State) : (s.dropSeed).resetDone = s.resetDone := rfl
@[simp] theorem State.dropSeed_freeCtr (s : State) : (s.dropSeed).freeCtr = s.freeCtr := rfl

@[simp] theorem State.setGen_seedState (s : State) (g : GeneratorState) : (s.setGen g).seedState = s.seedState := rfl
@[simp] theorem State.setGen_gen (s : State) (g : GeneratorState) : (s.setGen g).gen = some g := rfl
@[simp] theorem State.setGen_fIll (s : State) (g : GeneratorState) : (s.setGen g).fIll = s.fIll := rfl
@[simp] theorem State.setGen_fNoSeed (s : State) (g : GeneratorState) : (s.setGen g).fNoSeed = s.fNoSeed := rfl
@[simp] theorem State.setGen_fNoGen (s : State) (g : GeneratorState) : (s.setGen g).fNoGen = s.fNoGen := rfl
@[simp] theorem State.setGen_rsp (s : State) (g : GeneratorState) : (s.setGen g).rsp = s.rsp := rfl
@[simp] theorem State.setGen_host (s : State) (g : GeneratorState) : (s.setGen g).host = s.host := rfl
@[simp] theorem State.setGen_resetDone (s : State) (g : GeneratorState) : (s.setGen g).resetDone = s.resetDone := rfl
@[simp] theorem State.setGen_freeCtr (s : State) (g : GeneratorState) : (s.setGen g).freeCtr = s.freeCtr := rfl

@[simp] theorem State.setRsp_seedState (s : State) (r : RspWord) : (s.setRsp r).seedState = s.seedState := rfl
@[simp] theorem State.setRsp_gen (s : State) (r : RspWord) : (s.setRsp r).gen = s.gen := rfl
@[simp] theorem State.setRsp_fIll (s : State) (r : RspWord) : (s.setRsp r).fIll = s.fIll := rfl
@[simp] theorem State.setRsp_fNoSeed (s : State) (r : RspWord) : (s.setRsp r).fNoSeed = s.fNoSeed := rfl
@[simp] theorem State.setRsp_fNoGen (s : State) (r : RspWord) : (s.setRsp r).fNoGen = s.fNoGen := rfl
@[simp] theorem State.setRsp_rsp (s : State) (r : RspWord) : (s.setRsp r).rsp = some r := rfl
@[simp] theorem State.setRsp_host (s : State) (r : RspWord) : (s.setRsp r).host = s.host := rfl
@[simp] theorem State.setRsp_resetDone (s : State) (r : RspWord) : (s.setRsp r).resetDone = s.resetDone := rfl
@[simp] theorem State.setRsp_freeCtr (s : State) (r : RspWord) : (s.setRsp r).freeCtr = s.freeCtr := rfl

@[simp] theorem State.respondOk_seedState (s : State) (d : Word) : (s.respondOk d).seedState = s.seedState := rfl
@[simp] theorem State.respondOk_gen (s : State) (d : Word) : (s.respondOk d).gen = s.gen := rfl
@[simp] theorem State.respondOk_fIll (s : State) (d : Word) : (s.respondOk d).fIll = s.fIll := rfl
@[simp] theorem State.respondOk_fNoSeed (s : State) (d : Word) : (s.respondOk d).fNoSeed = s.fNoSeed := rfl
@[simp] theorem State.respondOk_fNoGen (s : State) (d : Word) : (s.respondOk d).fNoGen = s.fNoGen := rfl
@[simp] theorem State.respondOk_rsp (s : State) (d : Word) : (s.respondOk d).rsp = some (rspWord false d) := rfl
@[simp] theorem State.respondOk_host (s : State) (d : Word) : (s.respondOk d).host = s.host := rfl
@[simp] theorem State.respondOk_resetDone (s : State) (d : Word) : (s.respondOk d).resetDone = s.resetDone := rfl
@[simp] theorem State.respondOk_freeCtr (s : State) (d : Word) : (s.respondOk d).freeCtr = s.freeCtr := rfl

@[simp] theorem State.takeMove_seedState (s : State) : (s.takeMove).seedState = s.seedState := rfl
@[simp] theorem State.takeMove_gen (s : State) : (s.takeMove).gen = s.gen := rfl
@[simp] theorem State.takeMove_fIll (s : State) : (s.takeMove).fIll = s.fIll := rfl
@[simp] theorem State.takeMove_fNoSeed (s : State) : (s.takeMove).fNoSeed = s.fNoSeed := rfl
@[simp] theorem State.takeMove_fNoGen (s : State) : (s.takeMove).fNoGen = s.fNoGen := rfl
@[simp] theorem State.takeMove_rsp (s : State) : (s.takeMove).rsp = s.rsp := rfl
@[simp] theorem State.takeMove_host (s : State) : (s.takeMove).host = s.host.tail := rfl
@[simp] theorem State.takeMove_resetDone (s : State) : (s.takeMove).resetDone = s.resetDone := rfl
@[simp] theorem State.takeMove_freeCtr (s : State) : (s.takeMove).freeCtr = s.freeCtr := rfl

@[simp] theorem State.resetBlock_seedState (s : State) : (s.resetBlock).seedState = none := rfl
@[simp] theorem State.resetBlock_gen (s : State) : (s.resetBlock).gen = none := rfl
@[simp] theorem State.resetBlock_fIll (s : State) : (s.resetBlock).fIll = false := rfl
@[simp] theorem State.resetBlock_fNoSeed (s : State) : (s.resetBlock).fNoSeed = false := rfl
@[simp] theorem State.resetBlock_fNoGen (s : State) : (s.resetBlock).fNoGen = false := rfl
@[simp] theorem State.resetBlock_rsp (s : State) : (s.resetBlock).rsp = none := rfl
@[simp] theorem State.resetBlock_host (s : State) : (s.resetBlock).host = s.host := rfl
@[simp] theorem State.resetBlock_resetDone (s : State) : (s.resetBlock).resetDone = true := rfl
@[simp] theorem State.resetBlock_freeCtr (s : State) : (s.resetBlock).freeCtr = s.freeCtr := rfl

@[simp] theorem State.setSticky_seedState (s : State) (c : Cause) : (s.setSticky c).seedState = s.seedState := by cases c <;> rfl
@[simp] theorem State.setSticky_gen (s : State) (c : Cause) : (s.setSticky c).gen = s.gen := by cases c <;> rfl
@[simp] theorem State.setSticky_rsp (s : State) (c : Cause) : (s.setSticky c).rsp = s.rsp := by cases c <;> rfl
@[simp] theorem State.setSticky_host (s : State) (c : Cause) : (s.setSticky c).host = s.host := by cases c <;> rfl
@[simp] theorem State.setSticky_resetDone (s : State) (c : Cause) : (s.setSticky c).resetDone = s.resetDone := by cases c <;> rfl
@[simp] theorem State.setSticky_freeCtr (s : State) (c : Cause) : (s.setSticky c).freeCtr = s.freeCtr := by cases c <;> rfl

@[simp] theorem State.raise_seedState (s : State) (c : Cause) : (s.raise c).seedState = s.seedState := by cases c <;> rfl
@[simp] theorem State.raise_gen (s : State) (c : Cause) : (s.raise c).gen = s.gen := by cases c <;> rfl
@[simp] theorem State.raise_host (s : State) (c : Cause) : (s.raise c).host = s.host := by cases c <;> rfl
@[simp] theorem State.raise_resetDone (s : State) (c : Cause) : (s.raise c).resetDone = s.resetDone := by cases c <;> rfl
@[simp] theorem State.raise_freeCtr (s : State) (c : Cause) : (s.raise c).freeCtr = s.freeCtr := by cases c <;> rfl

@[simp] theorem State.raise_rsp (s : State) (c : Cause) : (s.raise c).rsp = some (rspWord true c.code) := rfl

@[simp] theorem State.setSeed_sticky (s : State) (d : Word) (c : Cause) : (s.setSeed d).sticky c = s.sticky c := by cases c <;> rfl
@[simp] theorem State.dropSeed_sticky (s : State) (c : Cause) : (s.dropSeed).sticky c = s.sticky c := by cases c <;> rfl
@[simp] theorem State.setGen_sticky (s : State) (g : GeneratorState) (c : Cause) : (s.setGen g).sticky c = s.sticky c := by cases c <;> rfl
@[simp] theorem State.setRsp_sticky (s : State) (r : RspWord) (c : Cause) : (s.setRsp r).sticky c = s.sticky c := by cases c <;> rfl
@[simp] theorem State.respondOk_sticky (s : State) (d : Word) (c : Cause) : (s.respondOk d).sticky c = s.sticky c := by cases c <;> rfl
@[simp] theorem State.takeMove_sticky (s : State) (c : Cause) : (s.takeMove).sticky c = s.sticky c := by cases c <;> rfl

/-- Setting one sticky flag sets that flag and no other (R19). -/
@[simp] theorem State.setSticky_sticky (s : State) (c d : Cause) :
    (s.setSticky c).sticky d = (decide (d = c) || s.sticky d) := by cases c <;> cases d <;> rfl

@[simp] theorem State.raise_sticky (s : State) (c d : Cause) :
    (s.raise c).sticky d = (decide (d = c) || s.sticky d) := by cases c <;> cases d <;> rfl

@[simp] theorem State.resetBlock_sticky (s : State) (c : Cause) : s.resetBlock.sticky c = false := by cases c <;> rfl

end Sys2Proof.Machine
end

