-- ==== Sys2Proof/Laws/Step.lean ====
section
/-!
SUPPORT. What each shared operation of a step can do, said once: a move of the host, an accepted command, fault entry.
-/

namespace Sys2Proof.Machine

@[simp] theorem State.nextMove_cons (s : State) (m : HostMove) (ms : List HostMove) :
    State.nextMove { s with host := m :: ms } = m := rfl

@[simp] theorem State.takeMove_cons (s : State) (m : HostMove) (ms : List HostMove) :
    State.takeMove { s with host := m :: ms } = { s with host := ms } := rfl

/-- A step carries out the first move of the host's list. -/
theorem step_cons (s : State) (m : HostMove) (ms : List HostMove) :
    step { s with host := m :: ms } = advance m { s with host := ms } := rfl

/-- A host whose list is exhausted idles (R112). -/
theorem step_nil (s : State) (h : s.host = []) : step s = .next s.takeMove.idleCycles := by
  simp [step, State.nextMove, advance, h]

/-- What an accepted command can do: it runs, unless no reset has been applied since power-up. -/
theorem accept_cases (w : CmdWord) (s : State) :
    (s.resetDone = true ∧ accept w s = exec (decode w) s) ∨
    (s.resetDone = false ∧ accept w s = .refused .notResetSincePowerUp) := by
  cases h : s.resetDone <;> simp [accept, h]

/-- What a move that answers a next state can have been. -/
theorem advance_next (m : HostMove) (s t : State) (h : advance m s = .next t) :
    (∃ w, m = .present w ∧ s.resetDone = true ∧ exec (decode w) s = .next t) ∨
    (m = .idle ∧ t = s.idleCycles) ∨
    (((∃ p, m = .reset p) ∨ ∃ w, m = .resetInFlight w) ∧ t = s.resetBlock) ∨
    (m = .powerUp ∧ t = s.unspecified) := by
  cases m with
  | present w =>
    obtain ⟨hr, ha⟩ | ⟨-, ha⟩ := accept_cases w s
    · exact .inl ⟨w, rfl, hr, by rw [← ha]; exact h⟩
    · simp [advance, ha] at h
  | idle => exact .inr (.inl ⟨rfl, by simpa [advance] using h.symm⟩)
  | reset p => exact .inr (.inr (.inl ⟨.inl ⟨p, rfl⟩, by simpa [advance] using h.symm⟩))
  | resetInFlight w => exact .inr (.inr (.inl ⟨.inr ⟨w, rfl⟩, by simpa [advance] using h.symm⟩))
  | powerUp => exact .inr (.inr (.inr ⟨rfl, by simpa [advance] using h.symm⟩))

theorem State.idleCycles_of_resetDone (s : State) (h : s.resetDone = true) :
    s.idleCycles = { s with rsp := none } := by
  simp [State.idleCycles, h]

theorem State.idleCycles_of_not_resetDone (s : State) (h : s.resetDone = false) : s.idleCycles = s.unspecified := by
  simp [State.idleCycles, h]

/-- A command neither reads nor writes the host's list, and always answers. -/
theorem exec_withHost (i : Instr) (s : State) :
    ∃ t : State, exec i s = .next t ∧ t.host = s.host ∧ t.resetDone = s.resetDone ∧
      ∀ h, exec i { s with host := h } = .next { t with host := h } := by
  rcases s with ⟨seed, gen, _, _, _, _, _, _, _⟩
  cases i <;> cases seed <;> cases gen <;> exact ⟨_, rfl, rfl, rfl, fun _ => rfl⟩

/-- A move reads and writes nothing of the host's list after it. -/
theorem advance_withHost (m : HostMove) (s : State) :
    (∃ t : State, ∀ h, advance m { s with host := h } = .next { t with host := h }) ∨
    ∀ h, advance m { s with host := h } = .refused .notResetSincePowerUp := by
  cases m with
  | present w =>
    by_cases hr : s.resetDone = true
    · obtain ⟨t, -, -, -, ht⟩ := exec_withHost (decode w) s
      exact .inl ⟨t, fun h => (if_pos hr).trans (ht h)⟩
    · exact .inr fun h => if_neg hr
  | idle =>
    by_cases hr : s.resetDone = true
    · exact .inl ⟨{ s with rsp := none }, fun h => congrArg _ (State.idleCycles_of_resetDone { s with host := h } hr)⟩
    · exact .inl ⟨s.unspecified, fun h =>
        congrArg _ (State.idleCycles_of_not_resetDone { s with host := h } (by simpa using hr))⟩
  | reset _ => exact .inl ⟨s.resetBlock, fun _ => rfl⟩
  | resetInFlight _ => exact .inl ⟨s.resetBlock, fun _ => rfl⟩
  | powerUp => exact .inl ⟨s.unspecified, fun _ => rfl⟩

@[simp] theorem State.unspecified_resetDone (s : State) : s.unspecified.resetDone = false := rfl
@[simp] theorem State.unspecified_host (s : State) : s.unspecified.host = s.host := rfl
@[simp] theorem State.unspecified_freeCtr (s : State) : s.unspecified.freeCtr = s.freeCtr + 1 := rfl

/-- Fault entry writes a sticky flag and the response port, nothing else (R88). -/
theorem State.raise_frame (s : State) (c : Cause) :
    s.raise c = { s with
      fIll := (s.raise c).fIll, fNoSeed := (s.raise c).fNoSeed, fNoGen := (s.raise c).fNoGen,
      rsp := some (rspWord true c.code) } := by
  cases c <;> rfl

end Sys2Proof.Machine
end

