-- ==== Sys2Proof/Tests/Slice0.lean ====
section
/-!
SUPPORT. The author's own tests, every expected value from 95_test_vectors.md (cited by its V, P and S numbers) or from
the rule named, and, for each statement with hypotheses, a witness that meets them (`witness_<statement>`).
-/

namespace Sys2Proof.Tests

open Sys2Proof.Machine

/-- Did the command answer a next state with this property? -/
def answers (o : Host.Outcome State Fault Refusal) (p : State → Bool) : Bool :=
  match o with
  | .next t => p t
  | _ => false

/-- A block that has been reset, with these registers, after no fault. -/
def block (seed : Option Word) (gen : Option GeneratorState) : State :=
  { State.reset with seedState := seed, gen := gen }

/-- The triple `INIT` gives from seed 1 (P1 row 2). -/
def triple1 : GeneratorState := ⟨0x910a2dec89025cc1#64, 0xbeeb8da1658eec67#64, 0xf893a2eefb32555e#64⟩

/-- A block not reset since power-up. -/
def unresetBlock : State := { State.reset with resetDone := false }

/-! ### Well-formedness: each check, with a term it refuses -/

theorem test_wf_accepts : parameters.wf = true ∧ (Instr.seed 0).wf = true ∧ (SourceLine.seed (2 ^ 64 - 1)).wf = true ∧
    (SourceLine.seedinit (2 ^ 64 - 1)).wf = true := by decide

theorem test_wf_refuses_even_constants :
    Config.wf { parameters with sxGamma := 2 } = false ∧ Config.wf { parameters with sxMul1 := 2 } = false ∧
    Config.wf { parameters with sxMul2 := 0 } = false ∧ Config.wf { parameters with fcInc := 4 } = false := by decide

theorem test_wf_refuses_amounts :
    Config.wf { parameters with rotMix := 64 } = false ∧ Config.wf { parameters with rotLoop := 64 } = false ∧
    Config.wf { parameters with sxShift1 := 0 } = false ∧ Config.wf { parameters with sxShift1 := 64 } = false ∧
    Config.wf { parameters with sxShift2 := 0 } = false ∧ Config.wf { parameters with sxShift2 := 64 } = false ∧
    Config.wf { parameters with sxShift3 := 0 } = false ∧ Config.wf { parameters with sxShift3 := 64 } = false := by decide

theorem test_wf_refuses_wide_literals :
    (SourceLine.seed (2 ^ 64)).wf = false ∧ (SourceLine.seedinit (2 ^ 64)).wf = false := by decide

/-! ### Decoding, by words written out from R43 (V8) -/

theorem test_decode_nop : decode 0x00000000000000000#67 = .nop ∧ decode 0x0ffffffffffffffff#67 = .nop := by decide

theorem test_decode_seed : decode 0x10000000000000001#67 = .seed 1#64 ∧
    decode 0x161c8864680b583eb#67 = .seed 0x61c8864680b583eb#64 := by decide

theorem test_decode_sxnext : decode 0x20000000000000000#67 = .sxnext ∧ decode 0x2123456789abcdef0#67 = .sxnext := by decide

theorem test_decode_init : decode 0x30000000000000000#67 = .init ∧ decode 0x30000000000001234#67 = .init := by decide

theorem test_decode_next : decode 0x40000000000000000#67 = .next ∧ decode 0x4ffffffffffffffff#67 = .next := by decide

theorem test_decode_rdstat : decode 0x50000000000000000#67 = .rdstat := by decide

theorem test_decode_rsvd6 : decode 0x60000000000000000#67 = .rsvd6 ∧ decode 0x6deadbeefdeadbeef#67 = .rsvd6 := by decide

theorem test_decode_rsvd7 : decode 0x70000000000000000#67 = .rsvd7 ∧ decode 0x7ffffffffffffffff#67 = .rsvd7 := by decide

theorem test_encode_words : encode (.seed 0xffffffffffffffff#64) = 0x1ffffffffffffffff#67 ∧
    encode .rsvd7 = 0x70000000000000000#67 ∧ encode .next = 0x40000000000000000#67 := by decide

theorem test_decodeTableWord : decodeTableWord 72 0x161c8864680b583eb = some (.seed 0x61c8864680b583eb#64) ∧
    decodeTableWord 72 0x80000000000000000 = none := by decide

/-! ### Datapath (V1, V2, V4, V5) -/

theorem test_add64_wraps : add64 0xffffffffffffffff#64 0x9e3779b97f4a7c15#64 = 0x9e3779b97f4a7c14#64 := by decide

theorem test_mul64_low_half : mul64 0x6f682616bae3641a#64 0x94d049bb133111eb#64 = 0xe220a838bf5c9dde#64 := by decide

theorem test_xsr_top_bit : xsr 0x8000000000000000#64 30 = 0x8000000200000000#64 ∧
    shr64 0x8000000000000000#64 27 = 0x0000001000000000#64 := by decide

theorem test_rotl64_edges : rotl64 0x0123456789abcdef#64 63 = 0x8091a2b3c4d5e6f7#64 ∧
    rotl64 0x8000000000000000#64 1 = 1#64 ∧ rotl64 0x8000000000000000#64 64 = 0x8000000000000000#64 := by decide

theorem test_mix64 : mix64 parameters 0x8000000000000000#64 = 0x25c26ea579cea98a#64 ∧
    mix64 parameters 0x0123456789abcdef#64 = 0xb2c058e4ebb5112c#64 := by decide

/-- V4 rows 9 and 11. -/
theorem test_genStep :
    genStep parameters ⟨0#64, 0x0001000000000000#64, 0x0000000001000000#64⟩ =
      (0x0001000001000000#64, ⟨0x9999999999999999#64, 2#64, 0x0001000000000000#64⟩) ∧
    genStep parameters ⟨0xaaaaaaaaaaaaaaaa#64, 0x5555555555555555#64, 0xffffffff00000000#64⟩ =
      (0x5555555455555555#64, ⟨0x4444444444444443#64, 0x5555565555555455#64, 0xffffffffffffffff#64⟩) := by decide

/-! ### Commands -/

/-- V7: NOP from reset. -/
theorem test_nop : answers (exec .nop State.reset)
    (fun t => t.rsp = some 0x00000000000000000#65 && t.status = 0 && t.seedState = none) = true := by decide

/-- P4 row 5: SEED while generating. -/
theorem test_seed : answers (exec (.seed 1#64) (block none (some triple1)))
    (fun t => t.rsp = some 0#65 && t.status = 0x03 && t.seedState = some 1#64 && t.gen = some triple1) = true := by decide

/-- V3, the increment wraps. -/
theorem test_sxnext : answers (exec .sxnext (block (some 0xffffffffffffffff#64) none))
    (fun t => t.rsp = some 0x0e4d971771b652c20#65 && t.seedState = some 0x9e3779b97f4a7c14#64 && t.status = 0x01)
      = true := by decide

/-- V7: SXNEXT in phase C. -/
theorem test_sxnext_fault : answers (exec .sxnext (block none (some triple1)))
    (fun t => t.rsp = some 0x10000000000000002#65 && t.status = 0x0a && t.gen = some triple1) = true := by decide

/-- P2 row 5: INIT takes the next three outputs. -/
theorem test_init : answers (exec .init (block (some 0xdaa66d2c7ddf743f#64) (some triple1)))
    (fun t => t.rsp = some 0#65 && t.status = 0x02 && t.seedState = none &&
      t.gen = some ⟨0xf88bb8a8724c81ec#64, 0x1b39896a51a8749b#64, 0x53cb9f0c747ea2ea#64⟩) = true := by decide

/-- V7: INIT in phase C. -/
theorem test_init_fault : answers (exec .init (block none (some triple1)))
    (fun t => t.rsp = some 0x10000000000000002#65 && t.status = 0x0a && t.gen = some triple1) = true := by decide

/-- P1 row 3. -/
theorem test_next : answers (exec .next (block none (some triple1)))
    (fun t => t.rsp = some 0x0b77f309060c141c5#65 && t.status = 0x02 &&
      t.gen = some ⟨0x2aa3c786229bf65a#64, 0xbff6c487800aade6#64, 0x2fe1a04dec8cb0a6#64⟩) = true := by decide

/-- V7: NEXT in phase B. -/
theorem test_next_fault : answers (exec .next (block (some 1#64) none))
    (fun t => t.rsp = some 0x10000000000000003#65 && t.status = 0x11 && t.seedState = some 1#64) = true := by decide

/-- V7: RDSTAT in phase D. -/
theorem test_rdstat : answers (exec .rdstat (block (some 2#64) (some triple1)))
    (fun t => t.rsp = some 0x00000000000000003#65) = true := by decide

/-- P3 rows 4 to 6: the sticky flags, read and kept. -/
theorem test_rdstat_sticky : answers (exec .rdstat { State.reset with fIll := true, fNoSeed := true, fNoGen := true })
    (fun t => t.rsp = some 0x0000000000000001c#65 && t.status = 0x1c) = true := by decide

/-- V7: RSVD6 from reset. -/
theorem test_rsvd6 : answers (exec .rsvd6 State.reset)
    (fun t => t.rsp = some 0x10000000000000001#65 && t.status = 0x04) = true := by decide

/-- V7: RSVD7 from reset. -/
theorem test_rsvd7 : answers (exec .rsvd7 State.reset)
    (fun t => t.rsp = some 0x10000000000000001#65 && t.status = 0x04) = true := by decide

/-! ### Steps, ports, assembler -/

theorem test_step_presented : answers (step (State.reset.withFetchWord 72 0x10000000000000001))
    (fun t => t.seedState = some 1#64 && t.rsp = some 0#65 && t.host = []) = true := by decide

/-- R103: reset wins over a presented SEED. -/
theorem test_step_reset_wins : answers
    (step { block (some 5#64) (some triple1) with host := [.reset (some 0x10000000000000001#67)], fIll := true })
    (fun t => t.seedState = none && t.gen = none && t.status = 0 && t.rsp = none) = true := by decide

/-- R108: an idle host changes nothing. -/
theorem test_step_idle : answers (step { block (some 5#64) none with rsp := some 0#65 })
    (fun t => t = block (some 5#64) none) = true := by decide

/-- R101, U13: a command before the first reset is refused. -/
theorem test_step_before_reset :
    step { unresetBlock with host := [.present 0x00000000000000000#67] } = .refused .notResetSincePowerUp := rfl

/-- The text of P1, "SEEDINIT 0x1", a blank line, "DRAW 3 ; three", "RDSTAT" (R52, R53). -/
theorem test_assembleText : assembleText
    (['S', 'E', 'E', 'D', 'I', 'N', 'I', 'T', ' ', '0', 'x', '1', '\n', '\n', 'D', 'R', 'A', 'W', ' ', '3', ' ', ';', ' ',
      't', 'h', 'r', 'e', 'e', '\n', 'R', 'D', 'S', 'T', 'A', 'T']) =
    .ok [0x10000000000000001#67, 0x30000000000000000#67, 0x40000000000000000#67, 0x40000000000000000#67,
      0x40000000000000000#67, 0x50000000000000000#67] := by rfl

/-- R52: decimal and hexadecimal literals, and what is refused. -/
theorem test_parseLine :
    parseLine ['S', 'E', 'E', 'D', ' ', '2', '5', '5'] = .ok (.seed 255) ∧
    parseLine ['S', 'E', 'E', 'D', ' ', '0', 'x', 'f', 'F'] = .ok (.seed 255) ∧
    parseLine ['S', 'E', 'E', 'D', ' ', ' ', '1'] = .error .badLiteral ∧
    parseLine ['S', 'E', 'E', 'D', ' ', '0', 'x'] = .error .badLiteral ∧
    parseLine ['n', 'o', 'p'] = .error .notALine ∧
    parseLine ['N', 'E', 'X', 'T', ' ', '1'] = .error .notALine := by decide

/-! ### Witnesses: the hypotheses of the statements can be met, each clause at an edge of its range -/

theorem witness_CommandWordHasOpAboveData :
    (2 < 3 ∧ (cmdOp 0x40000000000000000#67).getLsbD 2 = true) ∧
    (63 < 64 ∧ (cmdData 0x08000000000000000#67).getLsbD 63 = true) := by decide

theorem witness_DataFieldIgnoredExceptBySeed : (0b000#3 : BitVec 3) ≠ 0b001#3 ∧ (0b111#3 : BitVec 3) ≠ 0b001#3 ∧
    ∀ d, Instr.next ≠ .seed d := by simp

theorem witness_DecodeAndEncodeAgree :
    (∃ d, decode 0x1ffffffffffffffff#67 = .seed d) ∧ ∀ d, decode 0x2ffffffffffffffff#67 ≠ .seed d :=
  ⟨⟨_, rfl⟩, fun _ h => nomatch h⟩

theorem witness_ResponseWordPerCommand :
    answers (exec .rdstat (block none none)) (fun t => t.rsp.map rspErr = some false) = true ∧
    answers (exec .sxnext (block none none)) (fun t => t.rsp.map rspErr = some true) = true ∧
    faultOf .sxnext (block none none) = some .seedNotLoaded := by decide

theorem witness_OnlyReservedOpcodesAreIllegal :
    cmdOp 0x60000000000000000#67 = 0b110#3 ∧ cmdOp 0x7ffffffffffffffff#67 = 0b111#3 ∧
    cmdOp 0x5ffffffffffffffff#67 ≠ 0b110#3 ∧ cmdOp 0x5ffffffffffffffff#67 ≠ 0b111#3 := by decide

theorem witness_PseudoInstructionsExpand : 0 < 2 ^ 64 ∧ 2 ^ 64 - 1 < 2 ^ 64 := by decide

theorem witness_AssembledWordsDecodeToTheProgram :
    (∀ l ∈ [SourceLine.seed (2 ^ 64 - 1), .draw 2], l.wf = true) ∧
    assemble [.rsvd7, .seed 255] = .ok [0x70000000000000000#67, 0x100000000000000ff#67] ∧
    (∃ l ∈ [SourceLine.nop, .seed (2 ^ 64)], l.wf = false) ∧
    ∃ w : CmdWord, ∀ d, decode w ≠ .seed d :=
  ⟨by decide, rfl, ⟨SourceLine.seed (2 ^ 64), by decide, by decide⟩, ⟨0#67, fun _ h => nomatch h⟩⟩

theorem witness_XorAndShiftsBitByBit :
    (63 < 64 ∧ (shr64 0x8000000000000000#64 63).getLsbD 0 = true ∧ (shl64 1#64 63).getLsbD 63 = true) ∧
    (shr64 0x8000000000000000#64 0).getLsbD 63 = true := by decide

theorem witness_RotationBitByBitAndRoundTrip :
    (1 ≤ 1 ∧ 1 ≤ 63) ∧ (1 ≤ 63 ∧ 63 ≤ 63) ∧ 0 < 64 ∧ 63 < 64 ∧
    rotl64 (rotl64 5#64 63) ((64 - 63) % 64) = 5#64 ∧ rotl64 (rotl64 5#64 0) ((64 - 0) % 64) = 5#64 := by decide

theorem witness_AvalancheStagesAndWorkedValues : ∃ z z1 z2 z3 z4 : Word, z1 = xsr z 30 ∧
    z2 = mul64 z1 0xbf58476d1ce4e5b9#64 ∧ z3 = xsr z2 27 ∧ z4 = mul64 z3 0x94d049bb133111eb#64 ∧ z ≠ 0 :=
  ⟨1#64, _, _, _, _, rfl, rfl, rfl, rfl, by decide⟩

theorem witness_DatapathMapsAreBijections :
    (1 ≤ 1 ∧ 1 ≤ 63) ∧ (1 ≤ 63 ∧ 63 ≤ 63) ∧ (64 - 1 ≤ 63 ∧ 63 < 64) ∧ (64 - 63 ≤ 1 ∧ 1 < 64) ∧
    parameters.sxMul1.getLsbD 0 = true ∧ parameters.wf = true ∧
    Config.wf { parameters with sxShift1 := 1, sxShift2 := 63 } = true := by decide

theorem witness_OddIncrementHasFullPeriod :
    (0x9#4).getLsbD 0 = true ∧ (1#1).getLsbD 0 = true ∧ (block (some 0#64) none).seedState = some 0#64 ∧
    (block none (some triple1)).gen = some triple1 := by decide

theorem witness_GeneratorStepReadsOnlyTheOldTriple : (0#64 : Word) ≠ 1#64 := by decide

theorem witness_NopAnswersAndWritesNothing : ∃ t, exec .nop (block none (some triple1)) = .next t := ⟨_, rfl⟩

theorem witness_SxnextAdvancesTheSeedOrFaults :
    (block (some 0xffffffffffffffff#64) none).seedState = some 0xffffffffffffffff#64 ∧
    (∃ t, exec .sxnext (block (some 0xffffffffffffffff#64) none) = .next t) ∧
    (block none (some triple1)).seedState = none := ⟨rfl, ⟨_, rfl⟩, rfl⟩

theorem witness_InitTakesThreeOutputsOrFaults :
    (block (some 0#64) (some triple1)).seedState = some 0#64 ∧
    (∃ t, exec .init (block (some 0#64) (some triple1)) = .next t ∧ t.gen = some (initTriple parameters 0#64)) ∧
    (block none (some triple1)).seedState = none := ⟨rfl, ⟨_, rfl, rfl⟩, rfl⟩

theorem witness_NextDrawsAndAdvancesOrFaults :
    (block none (some triple1)).gen = some triple1 ∧ (block (some 1#64) none).gen = none := by decide

/-- Two states that agree on what each command reads, and differ elsewhere. -/
theorem witness_CommandsReadOnlyWhatTheTableSays :
    (block (some 1#64) none).seedState = (block (some 1#64) (some triple1)).seedState ∧
    (block none (some triple1)).gen = (block (some 1#64) (some triple1)).gen ∧
    ((block (some 1#64) none).seedValid = (block (some 2#64) none).seedValid ∧
      (block (some 1#64) none).genValid = (block (some 2#64) none).genValid ∧
      ∀ c, (block (some 1#64) none).sticky c = (block (some 2#64) none).sticky c) ∧
    (block (some 1#64) none).seedValid = true ∧ faultOf .next (block (some 1#64) none) = some .generatorNotSeeded :=
  ⟨rfl, rfl, ⟨rfl, rfl, fun c => by cases c <;> rfl⟩, rfl, rfl⟩

theorem witness_StatusBits : (5 ≤ 5 ∧ 5 ≤ 63) ∧ (5 ≤ 63 ∧ 63 ≤ 63) ∧
    (block (some 1#64) (some triple1)).status.getLsbD 5 = false := by decide

/-- Each branch of the table: with and without a seed, with and without a triple. -/
theorem witness_CommandsWriteOnlyWhatTheTableSays :
    (block (some 1#64) none).seedValid = true ∧ (block none (some triple1)).seedValid = false ∧
    (block none (some triple1)).genValid = true ∧ (block (some 1#64) none).genValid = false := by decide

theorem witness_IdempotentAndNotIdempotentCommands :
    (Instr.nop = Instr.nop ∨ Instr.nop = Instr.rdstat) ∧ (block (some 1#64) none).seedState = some 1#64 ∧
    (block none (some triple1)).gen = some triple1 := by decide

theorem witness_FaultEntryIsPrecise :
    faultOf .rsvd6 State.reset = some .illegalCommand ∧ faultOf .init State.reset = some .seedNotLoaded ∧
    faultOf .next { State.reset with host := [.present 0#67] } = some .generatorNotSeeded ∧
    State.reset.resetDone = true := by decide

theorem witness_FaultsExactlyAsTabulated :
    answers (exec .next State.reset) (fun t => t.rsp.map rspErr = some true) = true ∧
    answers (exec .init State.reset) (fun t => t.rsp.map rspErr = some true) = true ∧
    answers (exec .rsvd7 State.reset) (fun t => t.rsp.map rspErr = some true) = true := by decide

theorem witness_StickyFlagsOnlyRecord : Instr.next ≠ .rdstat ∧ State.reset.resetDone = true := by decide

theorem witness_NoDataMakesACommandFault :
    (block (some 0#64) none).seedValid = true ∧ (block none (some triple1)).genValid = true := by decide

theorem witness_DataRegistersAreNotReadBack :
    Instr.init ≠ .sxnext ∧ Instr.init ≠ .next ∧ Instr.rdstat ≠ .init ∧
    (block (some 1#64) none).seedValid = (block (some 2#64) none).seedValid ∧
    (block (some 1#64) none).genValid = (block (some 2#64) none).genValid ∧
    ∀ c, (block (some 1#64) none).sticky c = (block (some 2#64) none).sticky c :=
  ⟨by decide, by decide, by decide, rfl, rfl, fun c => by cases c <;> rfl⟩

theorem witness_ExpanderSequenceLaw : (1 ≤ 1 ∧ 1 ≤ 2 ^ 64) ∧ (1 ≤ 2 ^ 64 ∧ 2 ^ 64 ≤ 2 ^ 64) ∧ 1 ≠ 2 ^ 64 := by decide

theorem witness_FastCounterAfterDraws : (block none (some triple1)).gen = some triple1 := by decide

theorem witness_TheStreamNeverEnds : (block none (some triple1)).genValid = true ∧
    (trace (block none (some triple1)) [encode .next]).map Prod.fst = [.next] := by decide

/-- A `NEXT`, an `INIT` that faults and a `NEXT` (P3 rows 11 and 12). -/
theorem witness_DrawsDependOnlyOnTheTriple : (block none (some triple1)).gen = some triple1 ∧
    ∀ p ∈ trace (block none (some triple1)) [encode .next, encode .init, encode .next],
      p.1 = .init → rspErr p.2 = true := by decide

theorem witness_FirstDrawIsTheSumOfTheInitialWords : (block (some 1#64) none).seedState = some 1#64 := by decide

theorem witness_StepExecutesThePresentedCommand : State.reset.resetDone = true ∧ (Instr.seed 1#64).wf = true := by
  decide

theorem witness_WithFetchWordRunsTheInstruction : State.reset.resetDone = true ∧
    decodeTableWord 72 0x10000000000000001 = some (.seed 1#64) ∧
    decodeTableWord 72 0x7ffffffffffffffff = some .rsvd7 := by decide

theorem witness_ParametersOfTheDocument : (block (some 1#64) none).seedState = some 1#64 ∧
    ∃ t, exec .init (block (some 1#64) none) = .next t ∧ t.gen.map GeneratorState.words = some triple1.words :=
  ⟨rfl, _, rfl, by decide⟩

/-- Two hosts with the same commands and other idle cycles, and two states with the same block. -/
theorem witness_ResponsesDependOnEarlierCommandsOnly :
    State.reset.resetDone = true ∧ (block none none).resetDone = true ∧ SameBlock State.reset (block none none) ∧
    (∀ m ∈ [HostMove.present 0x10000000000000001#67, .idle], m = .idle ∨ ∃ w, m = .present w) ∧
    (∀ m ∈ [HostMove.idle, .idle, .present 0x10000000000000001#67], m = .idle ∨ ∃ w, m = .present w) ∧
    commandsOf [.present 0x10000000000000001#67, .idle] = commandsOf [.idle, .idle, .present 0x10000000000000001#67] :=
  ⟨rfl, rfl, ⟨rfl, rfl, rfl, rfl, rfl⟩, by simp, by simp, rfl⟩

theorem witness_ResetAbandonsACommandInFlight :
    [HostMove.present 0x40000000000000000#67, .idle] = .present 0x40000000000000000#67 :: [.idle] := rfl

theorem witness_ResetEdgeGivesTheResetState :
    [HostMove.present 0x10000000000000001#67] = .present 0x10000000000000001#67 :: [] := rfl

theorem witness_OnlyResetClearsStickyFlagsAndGenValid : State.reset.resetDone = true ∧
    ∃ t, step { block none (some triple1) with fIll := true, host := [.present 0x40000000000000000#67] } = .next t :=
  ⟨rfl, ⟨_, rfl⟩⟩

theorem witness_IdleBlockKeepsItsState : State.reset.resetDone = true ∧ State.reset.host = [] := by decide

theorem witness_StepStopsOnlyBeforeTheFirstReset :
    unresetBlock.resetDone = false ∧
    State.nextMove { unresetBlock with host := [.present 0#67] } = .present 0#67 := by decide

theorem witness_HostGapsDoNotMatter : State.reset.resetDone = true ∧
    ∀ m ∈ [HostMove.present 0x10000000000000001#67, .idle, .present 0x30000000000000000#67],
      m = .idle ∨ ∃ w, m = .present w := by simp [State.reset]

/-- The invariant's premises at a state that generates: the triple of seed 1, and a `NEXT` presented. -/
theorem witness_EveryStepKeepsTheInvariant :
    State.Inv { block none (some triple1) with host := [.present 0x40000000000000000#67] } ∧
    ∃ t, step { block none (some triple1) with host := [.present 0x40000000000000000#67] } = .next t :=
  ⟨fun _ => ⟨fun g h => ⟨1#64, 0, by cases h; decide⟩, fun _ h => nomatch h⟩, ⟨_, rfl⟩⟩

end Sys2Proof.Tests
end

section
/-!
The parameters of the document (R5), and what `INIT` writes when a seed is loaded (R73).
-/

namespace Sys2Proof.Machine

/-- `INIT` with a seed loaded (R73): the triple comes from the seed, the seed is discarded, the answer carries no data. -/
theorem exec_init_of_seed {s : State} {x : Word} (hx : s.seedState = some x) :
    exec .init s = .next (((s.setGen (initTriple parameters x)).dropSeed).respondOk 0) := by
  simp only [exec, execInit, hx]

/-- The triple that `INIT` leaves holds the next `N_INIT` expander outputs of the seed, in order (R5, R73, R75). -/
theorem exec_init_gen_words {s t : State} {x : Word} (hx : s.seedState = some x) (ht : exec .init s = .next t) :
    t.gen.map GeneratorState.words = some (sxOutputs parameters Config.N_INIT x) := by
  rw [exec_init_of_seed hx] at ht
  cases ht
  simp only [State.respondOk_gen, State.dropSeed_gen, State.setGen_gen, Option.map_some, initTriple_words]

/-- The parity and range facts the rules rely on (R5): odd additive and multiplicative constants, rotations below the width. -/
theorem parameters_odd_and_in_range :
    parameters.sxGamma.getLsbD 0 = true ∧ parameters.sxMul1.getLsbD 0 = true ∧ parameters.sxMul2.getLsbD 0 = true ∧
      parameters.fcInc.getLsbD 0 = true ∧ parameters.rotMix < 64 ∧ parameters.rotLoop < 64 := by
  decide

/-- Settles O56: the values are those of `parameters` as written, and the counts are tied to the machine by
`word_width`, `GeneratorState.words_length` and what `INIT` writes. -/
theorem parametersOfTheDocument : Obligations.ParametersOfTheDocument := by
  unfold Obligations.ParametersOfTheDocument
  refine ⟨⟨rfl, rfl, rfl⟩, ⟨rfl, rfl, rfl, rfl, rfl, rfl⟩, parameters_odd_and_in_range, word_width, ?_, ?_⟩
  · exact fun g => ⟨rfl, g.words_length⟩
  · exact fun _ _ _ hx ht => exec_init_gen_words hx ht

end Sys2Proof.Machine
end

section
/-!
The sticky fault flags (R19), through what a command can do at all: fault entry alone, or an answer that writes no flag;
and the state after reset (R26).
-/

namespace Sys2Proof.Machine

/-- Replacing data registers leaves the sticky flags. -/
@[simp] theorem State.withRegisters_sticky (s : State) (seed : Option Word) (gen : Option GeneratorState) (c : Cause) :
    State.sticky { s with seedState := seed, gen := gen } c = s.sticky c := by cases c <;> rfl

/-- Replacing the host's moves leaves the sticky flags. -/
@[simp] theorem State.withHost_sticky (s : State) (ms : List HostMove) (c : Cause) :
    State.sticky { s with host := ms } c = s.sticky c := by cases c <;> rfl

/-- An idle host leaves the sticky flags of a block that has been reset (R99). -/
theorem State.idleCycles_sticky (s : State) (h : s.resetDone = true) (c : Cause) :
    s.idleCycles.sticky c = s.sticky c := by
  rw [s.idleCycles_of_resetDone h]
  cases c <;> rfl

/-- What a command can do: where it meets a fault, fault entry (R88); where it meets none, an answer with `err` = 0 that
writes nothing but data registers and the response (R17). -/
theorem exec_cases (i : Instr) (s : State) :
    (∃ c, faultOf i s = some c ∧ exec i s = .next (s.raise c)) ∨
    (faultOf i s = none ∧ ∃ seed gen d,
      exec i s = .next (State.respondOk { s with seedState := seed, gen := gen } d)) := by
  obtain ⟨seedState, gen⟩ := s
  cases i with
  | nop | seed | rdstat => exact .inr ⟨rfl, _, _, _, rfl⟩
  | sxnext | init =>
    cases seedState with
    | none => exact .inl ⟨_, rfl, rfl⟩
    | some x => exact .inr ⟨rfl, _, _, _, rfl⟩
  | next =>
    cases gen with
    | none => exact .inl ⟨_, rfl, rfl⟩
    | some g => exact .inr ⟨rfl, _, _, _, rfl⟩
  | rsvd6 | rsvd7 => exact .inl ⟨_, rfl, rfl⟩

/-- After a command a sticky flag is set exactly if it was set or the command met the fault of its name (R19). -/
theorem exec_sticky (i : Instr) (s : State) :
    ∃ t, exec i s = .next t ∧ ∀ c, (t.sticky c = true ↔ s.sticky c = true ∨ faultOf i s = some c) := by
  obtain ⟨c, hc, he⟩ | ⟨hn, seed, gen, d, he⟩ := exec_cases i s
  · exact ⟨_, he, fun e => by simp [hc, @eq_comm _ e c, or_comm]⟩
  · exact ⟨_, he, fun e => by simp [hn]⟩

/-- What a command writes to the data registers, and what any command but `RDSTAT` answers, does not depend on the sticky
flags (R19): no meaning tests one, and `STATUS` alone reads them. -/
theorem exec_withSticky (i : Instr) (s : State) (ill noSeed noGen : Bool) :
    ∃ t t', exec i s = .next t ∧ exec i { s with fIll := ill, fNoSeed := noSeed, fNoGen := noGen } = .next t' ∧
      t.seedState = t'.seedState ∧ t.gen = t'.gen ∧ (i ≠ .rdstat → t.rsp = t'.rsp) := by
  obtain ⟨seedState, gen⟩ := s
  cases i with
  | rdstat => exact ⟨_, _, rfl, rfl, rfl, rfl, fun h => absurd rfl h⟩
  | nop | seed | rsvd6 | rsvd7 => exact ⟨_, _, rfl, rfl, rfl, rfl, fun _ => rfl⟩
  | sxnext | init => cases seedState <;> exact ⟨_, _, rfl, rfl, rfl, rfl, fun _ => rfl⟩
  | next => cases gen <;> exact ⟨_, _, rfl, rfl, rfl, rfl, fun _ => rfl⟩

/-- Settles O31: commands by `exec_sticky` and `exec_withSticky`, the idle host by `State.idleCycles_sticky`, the reset by
`State.resetBlock_sticky`. -/
theorem stickyFlagsOnlyRecord : Obligations.StickyFlagsOnlyRecord := by
  unfold Obligations.StickyFlagsOnlyRecord
  refine ⟨exec_sticky, exec_withSticky, fun s rest hr => ?_, fun s p rest => ?_⟩
  · rw [step_cons]
    exact ⟨_, rfl, fun c => by rw [State.idleCycles_sticky { s with host := rest } hr, State.withHost_sticky]⟩
  · rw [step_cons]
    exact ⟨_, rfl, State.resetBlock_sticky _⟩

/-- `STATUS` reads 0 after reset (R20, R26). -/
@[simp] theorem State.reset_status : State.reset.status = 0x0000000000000000#64 := by decide

/-- No data register holds a value after reset (R26, U8). -/
@[simp] theorem State.reset_x (k : Fin 4) : State.reset.x k = none :=
  match k with
  | 0 | 1 | 2 | 3 => rfl

/-- Settles O46: the flags as `State.reset` gives them, STATUS and the registers by `State.reset_status`, `State.reset_x`. -/
theorem resetStateHoldsNoValues : Obligations.ResetStateHoldsNoValues := by
  unfold Obligations.ResetStateHoldsNoValues
  exact ⟨rfl, rfl, rfl, rfl, rfl, State.reset_status, State.reset_x⟩

end Sys2Proof.Machine
end

section
/-!
The block's part of the state (R13) settles what a command does: the ports and the host's moves enter neither its writes
nor its response. So the fold of R9 gives the same responses from any two states that agree on the block.
-/

namespace Sys2Proof.Machine

theorem SameBlock.refl (s : State) : SameBlock s s := ⟨rfl, rfl, rfl, rfl, rfl⟩

theorem SameBlock.trans {s t u : State} (hst : SameBlock s t) (htu : SameBlock t u) : SameBlock s u := by
  obtain ⟨hseed, hgen, hill, hnoSeed, hnoGen⟩ := hst
  obtain ⟨hseed', hgen', hill', hnoSeed', hnoGen'⟩ := htu
  exact ⟨hseed.trans hseed', hgen.trans hgen', hill.trans hill', hnoSeed.trans hnoSeed', hnoGen.trans hnoGen'⟩

/-- Every command answers, with a response on the port (R51). -/
theorem exec_responds (i : Instr) (s : State) : ∃ t r, exec i s = .next t ∧ t.rsp = some r := by
  obtain ⟨c, -, he⟩ | ⟨-, seed, gen, d, he⟩ := exec_cases i s
  · exact ⟨_, _, he, s.raise_rsp c⟩
  · exact ⟨_, _, he, State.respondOk_rsp _ d⟩

/-- On two states that agree on the block a command leaves the same block and gives the same response (R17, R34). -/
theorem exec_sameBlock (i : Instr) {s s' : State} (h : SameBlock s s') :
    ∃ t t', exec i s = .next t ∧ exec i s' = .next t' ∧ SameBlock t t' ∧ t.rsp = t'.rsp := by
  obtain ⟨seed, gen, ill, noSeed, noGen, _, _, _, _⟩ := s
  obtain ⟨seed', gen', ill', noSeed', noGen', _, _, _, _⟩ := s'
  obtain ⟨rfl, rfl, rfl, rfl, rfl⟩ : seed = seed' ∧ gen = gen' ∧ ill = ill' ∧ noSeed = noSeed' ∧ noGen = noGen' := h
  cases i with
  | nop | seed | rdstat | rsvd6 | rsvd7 => exact ⟨_, _, rfl, rfl, ⟨rfl, rfl, rfl, rfl, rfl⟩, rfl⟩
  | sxnext | init => cases seed <;> exact ⟨_, _, rfl, rfl, ⟨rfl, rfl, rfl, rfl, rfl⟩, rfl⟩
  | next => cases gen <;> exact ⟨_, _, rfl, rfl, ⟨rfl, rfl, rfl, rfl, rfl⟩, rfl⟩

/-- R9's function of a state and a command word is what `exec` answers. -/
theorem exec_eq_blockStep (s : State) (w : CmdWord) : exec (decode w) s = .next (blockStep s w).1 := by
  obtain ⟨t, r, he, hr⟩ := exec_responds (decode w) s
  rw [he, blockStep_of_next he hr]

/-- The response of R9's function is the one on the port. -/
theorem blockStep_rsp (s : State) (w : CmdWord) : (blockStep s w).1.rsp = some (blockStep s w).2 := by
  obtain ⟨t, r, he, hr⟩ := exec_responds (decode w) s
  rw [blockStep_of_next he hr, hr]

/-- A command leaves the host's list, whatever it is, and the mark of the first reset. -/
theorem blockStep_withHost (s : State) (w : CmdWord) :
    (blockStep s w).1.resetDone = s.resetDone ∧
    ∀ h, exec (decode w) { s with host := h } = .next { (blockStep s w).1 with host := h } := by
  obtain ⟨t, he, -, hr, hh⟩ := exec_withHost (decode w) s
  obtain rfl : (blockStep s w).1 = t := Host.Outcome.next.inj ((exec_eq_blockStep s w).symm.trans he)
  exact ⟨hr, hh⟩

theorem blockStep_sameBlock {s s' : State} (h : SameBlock s s') (w : CmdWord) :
    SameBlock (blockStep s w).1 (blockStep s' w).1 ∧ (blockStep s w).2 = (blockStep s' w).2 := by
  obtain ⟨t, t', he, he', hb, hr⟩ := exec_sameBlock (decode w) h
  obtain rfl : (blockStep s w).1 = t := Host.Outcome.next.inj ((exec_eq_blockStep s w).symm.trans he)
  obtain rfl : (blockStep s' w).1 = t' := Host.Outcome.next.inj ((exec_eq_blockStep s' w).symm.trans he')
  exact ⟨hb, Option.some.inj (by rw [← blockStep_rsp, ← blockStep_rsp, hr])⟩

/-- The fold of R9 keeps the agreement of two states on the block. -/
theorem after_sameBlock {s s' : State} (h : SameBlock s s') (ws : List CmdWord) :
    SameBlock (after s ws) (after s' ws) := by
  induction ws generalizing s s' with
  | nil => exact h
  | cons w ws ih => exact ih (blockStep_sameBlock h w).1

/-- The responses are a function of the block's state and the commands (R34). -/
theorem responses_sameBlock {s s' : State} (h : SameBlock s s') (ws : List CmdWord) :
    responses s ws = responses s' ws := by
  induction ws generalizing s s' with
  | nil => rfl
  | cons w ws ih =>
    obtain ⟨hb, hr⟩ := blockStep_sameBlock h w
    rw [responses_cons, responses_cons, hr, ih hb]

/-- One response per command (R34, R42). -/
@[simp] theorem responses_length (s : State) (ws : List CmdWord) : (responses s ws).length = ws.length := by
  induction ws generalizing s with
  | nil => rfl
  | cons w ws ih => simp [ih]

end Sys2Proof.Machine
end

section
/-!
The machine that steps against the fold of R9: what one step adds to a run and to what the host sees, and, over any list of
presented commands and idle cycles, the state reached and the responses seen (R34, R107).
-/

namespace Sys2Proof.Machine

/-- A step at which a command is presented to a block that has been reset executes it (R50). -/
theorem step_present {s : State} (hr : s.resetDone = true) (w : CmdWord) (rest : List HostMove) :
    step { s with host := .present w :: rest } = exec (decode w) { s with host := rest } :=
  (step_cons s _ rest).trans (if_pos hr)

/-- An idle step of a block that has been reset (R99, R108). -/
theorem step_idle {s : State} (hr : s.resetDone = true) (rest : List HostMove) :
    step { s with host := .idle :: rest } = .next { s with host := rest, rsp := none } :=
  (step_cons s _ rest).trans (congrArg _ (State.idleCycles_of_resetDone { s with host := rest } hr))

@[simp] theorem observed_zero (s : State) : observed 0 s = [] := rfl

theorem observed_succ_of_step {s t : State} (h : step s = .next t) (k : Nat) :
    observed (k + 1) s = t.rsp.toList ++ observed k t := by
  simp only [observed, h]

theorem observed_succ_of_refused {s : State} {r : Refusal} (h : step s = .refused r) (k : Nat) :
    observed (k + 1) s = [] := by
  simp only [observed, h]

theorem run_succ_of_step {s t : State} (h : step s = .next t) (k : Nat) :
    Host.Core.run Sys2Proof.core (k + 1) s = Host.Core.run Sys2Proof.core k t := by
  simp only [Host.Core.run, Sys2Proof.core, h]

/-- A run that reaches a next state begins with a step that does, and goes on from there. -/
theorem run_succ_next {k : Nat} {s u : State} (h : Host.Core.run Sys2Proof.core (k + 1) s = .next u) :
    ∃ t, step s = .next t ∧ Host.Core.run Sys2Proof.core k t = .next u := by
  cases hs : step s with
  | next t => exact ⟨t, rfl, run_succ_of_step hs k ▸ h⟩
  | fault r => cases r
  | refused r => simp only [Host.Core.run, Sys2Proof.core, hs] at h; cases h

/-- What the host sees of `n + k` steps is what it sees of `n`, then what it sees of `k` from the state reached. -/
theorem observed_add {n : Nat} {s t : State} (h : Host.Core.run Sys2Proof.core n s = .next t) (k : Nat) :
    observed (n + k) s = observed n s ++ observed k t := by
  induction n generalizing s with
  | zero => cases h; simp
  | succ n ih =>
    obtain ⟨u, hs, hu⟩ := run_succ_next h
    rw [Nat.add_right_comm, observed_succ_of_step hs, observed_succ_of_step hs, ih hu, List.append_assoc]

/-- What the host sees of its first moves does not depend on the moves after them, of whatever kind they are. -/
theorem observed_append_moves (s : State) (ms rest : List HostMove) :
    observed ms.length { s with host := ms ++ rest } = observed ms.length { s with host := ms } := by
  induction ms generalizing s with
  | nil => rfl
  | cons m ms ih =>
    obtain ⟨t, ht⟩ | hrefused := advance_withHost m s
    · have hstep (h : List HostMove) : step { s with host := m :: h } = .next { t with host := h } := ht h
      rw [List.length_cons, List.cons_append, observed_succ_of_step (hstep _), observed_succ_of_step (hstep _), ih t]
    · have hstep (h : List HostMove) : step { s with host := m :: h } = .refused .notResetSincePowerUp := hrefused h
      rw [List.length_cons, List.cons_append, observed_succ_of_refused (hstep _), observed_succ_of_refused (hstep _)]

/-- Commands presented to a block that has been reset, with idle cycles between: the block reaches the state of the fold, one
that depends on nothing after those moves, and the host sees the responses of the fold (R9, R34, R107). -/
theorem run_commands (s : State) (ms : List HostMove) (hr : s.resetDone = true)
    (hms : ∀ m ∈ ms, m = .idle ∨ ∃ w, m = .present w) :
    ∃ t : State, t.resetDone = true ∧ SameBlock t (after s (commandsOf ms)) ∧ ∀ rest,
      Host.Core.run Sys2Proof.core ms.length { s with host := ms ++ rest } = .next { t with host := rest } ∧
      observed ms.length { s with host := ms ++ rest } = responses s (commandsOf ms) := by
  induction ms generalizing s with
  | nil => exact ⟨s, hr, .refl s, fun _ => ⟨rfl, rfl⟩⟩
  | cons m ms ih =>
    obtain ⟨hm, hrest⟩ := List.forall_mem_cons.mp hms
    obtain rfl | ⟨w, rfl⟩ := hm
    · have hidle : SameBlock { s with rsp := none } s := .refl s
      obtain ⟨t, htr, htb, ht⟩ := ih { s with rsp := none } hr hrest
      refine ⟨t, htr, htb.trans (after_sameBlock hidle _), fun rest => ?_⟩
      obtain ⟨hrun, hobs⟩ := ht rest
      have hstep := step_idle hr (ms ++ rest)
      exact ⟨(run_succ_of_step hstep _).trans hrun,
        (observed_succ_of_step hstep _).trans (hobs.trans (responses_sameBlock hidle _))⟩
    · obtain ⟨hkept, hexec⟩ := blockStep_withHost s w
      obtain ⟨t, htr, htb, ht⟩ := ih (blockStep s w).1 (hkept.trans hr) hrest
      refine ⟨t, htr, htb, fun rest => ?_⟩
      obtain ⟨hrun, hobs⟩ := ht rest
      have hstep := (step_present hr w (ms ++ rest)).trans (hexec _)
      refine ⟨(run_succ_of_step hstep _).trans hrun, (observed_succ_of_step hstep _).trans ?_⟩
      rw [hobs, blockStep_rsp]
      rfl

/-- Settles O44: later moves do not matter by `observed_append_moves`; the responses are those of R9's fold by
`run_commands`, which reads the block alone (`responses_sameBlock`); and the next command runs on the state `run_commands`
gives, its response last by `observed_add`. -/
theorem responsesDependOnEarlierCommandsOnly : Obligations.ResponsesDependOnEarlierCommandsOnly := by
  unfold Obligations.ResponsesDependOnEarlierCommandsOnly
  refine ⟨observed_append_moves, fun s s' ms ms' rest rest' hr hr' hb hms hms' hcmds => ?_, fun s ms hr hms => ?_⟩
  · obtain ⟨_, -, -, ht⟩ := run_commands s ms hr hms
    obtain ⟨_, -, -, ht'⟩ := run_commands s' ms' hr' hms'
    rw [(ht rest).2, (ht' rest').2, ← hcmds, responses_sameBlock hb, responses_length]
    exact ⟨rfl, rfl⟩
  · obtain ⟨t, htr, -, ht⟩ := run_commands s ms hr hms
    refine ⟨t, fun w rest => ?_⟩
    have hrun := (ht (.present w :: rest)).1
    have hstep := step_present htr w rest
    obtain ⟨u, r, he, hu⟩ := exec_responds (decode w) { t with host := rest }
    refine ⟨hrun, hstep, u, r, he, hu, ?_⟩
    rw [observed_add hrun, observed_append_moves, observed_succ_of_step (hstep.trans he), hu]
    rfl

end Sys2Proof.Machine
end

section
/-!
The command word and its decoder (R41, R43, R45, R52): the word as a number, the decoder as an `↔` on the two fields, and
the opcode map's masks as comparisons of the opcode field.
-/

namespace Sys2Proof

/-- The number of a word put together from two fields. -/
theorem toNat_append_eq_add {m n : Nat} (x : BitVec m) (y : BitVec n) : (x ++ y).toNat = x.toNat * 2 ^ n + y.toNat := by
  rw [BitVec.toNat_append, ← Nat.shiftLeft_add_eq_or_of_lt y.isLt, Nat.shiftLeft_eq]

/-- Settles O1: the bits of the fields by `cmdOp_bit` and `cmdData_bit`, the word as a number by `toNat_append_eq_add`. -/
theorem commandWordHasOpAboveData : Obligations.CommandWordHasOpAboveData := by
  unfold Obligations.CommandWordHasOpAboveData
  refine ⟨fun w i hi => ?_, fun w i hi => ?_, fun op d => toNat_append_eq_add op d,
    fun op d => ⟨cmdOp_cmdWord op d, cmdData_cmdWord op d⟩⟩
  · rw [cmdOp_bit, decide_eq_true hi, Bool.true_and]
  · rw [cmdData_bit, decide_eq_true hi, Bool.true_and]

/-- The mask of R43 keeps the opcode field and clears the data field. -/
theorem and_opcodeMask (w : CmdWord) : w &&& 0x70000000000000000#67 = cmdWord (cmdOp w) 0 :=
  calc w &&& 0x70000000000000000#67
      = cmdWord (cmdOp w) (cmdData w) &&& cmdWord (BitVec.allOnes 3) 0 := by rw [cmdWord_fields]; rfl
    _ = cmdWord (cmdOp w &&& BitVec.allOnes 3) (cmdData w &&& 0) := BitVec.and_append
    _ = cmdWord (cmdOp w) 0 := by rw [BitVec.and_allOnes, show cmdData w &&& 0 = 0 from BitVec.and_zero]

/-- A word under the mask is the match of an opcode exactly when that opcode stands in its opcode field (R43). -/
theorem and_opcodeMask_eq_iff (w : CmdWord) (op : BitVec 3) :
    w &&& 0x70000000000000000#67 = cmdWord op 0 ↔ cmdOp w = op := by
  rw [and_opcodeMask]
  exact BitVec.append_left_inj 0

/-- A word with the opcode of a command decodes to it, whatever stands in the data field, if for `SEED` the seed does. -/
theorem decode_cmdWord_opcode (i : Instr) (d : Word) (hd : i.opcode = 0b001#3 → d = i.data) :
    decode (cmdWord i.opcode d) = i := by
  rw [decode, cmdOp_cmdWord, cmdData_cmdWord]
  cases i with
  | seed x => exact congrArg Instr.seed (hd rfl)
  | nop | sxnext | init | next | rdstat | rsvd6 | rsvd7 => rfl

@[simp] theorem decode_encode (i : Instr) : decode (encode i) = i := decode_cmdWord_opcode i i.data fun _ => rfl

/-- The decoder keeps the opcode field: the map of R43 lists all eight of its values. -/
theorem opcode_decode (w : CmdWord) : (decode w).opcode = cmdOp w := by
  unfold decode
  split_ifs
  case neg => simp only [Instr.opcode]; bv_omega
  all_goals exact Eq.symm ‹cmdOp w = _›

theorem decode_of_seed_opcode {w : CmdWord} (h : cmdOp w = 0b001#3) : decode w = .seed (cmdData w) := by
  simp [decode, h]

/-- A word decodes to a command exactly when its opcode field is that command's opcode and, for `SEED` alone, its data field
the seed (R43, R44, R45). -/
theorem decode_eq_iff (w : CmdWord) (i : Instr) :
    decode w = i ↔ cmdOp w = i.opcode ∧ (i.opcode = 0b001#3 → cmdData w = i.data) := by
  constructor
  · rintro rfl
    refine ⟨(opcode_decode w).symm, fun h => ?_⟩
    rw [decode_of_seed_opcode ((opcode_decode w).symm.trans h)]
    rfl
  · rintro ⟨hop, hdata⟩
    rw [← cmdWord_fields w, hop]
    exact decode_cmdWord_opcode i _ hdata

/-- A row of the opcode map (R43): the word under the mask is the row's match exactly when the word decodes to the row's
command. -/
theorem and_opcodeMask_eq_iff_decode {w rowMatch : CmdWord} (op : BitVec 3) (i : Instr) (hm : rowMatch = cmdWord op 0)
    (hop : i.opcode = op) (hd : i.opcode = 0b001#3 → cmdData w = i.data) :
    w &&& 0x70000000000000000#67 = rowMatch ↔ decode w = i := by
  rw [hm, and_opcodeMask_eq_iff, decode_eq_iff, hop, and_iff_left (hop ▸ hd)]

/-- Settles O2: each row is `and_opcodeMask_eq_iff_decode`; only `SEED`'s has an operand to compare. -/
theorem decodeFollowsTheOpcodeMap : Obligations.DecodeFollowsTheOpcodeMap := by
  unfold Obligations.DecodeFollowsTheOpcodeMap
  exact fun w => ⟨and_opcodeMask_eq_iff_decode 0b000#3 .nop rfl rfl nofun,
    and_opcodeMask_eq_iff_decode 0b001#3 (.seed (cmdData w)) rfl rfl fun _ => rfl,
    and_opcodeMask_eq_iff_decode 0b010#3 .sxnext rfl rfl nofun,
    and_opcodeMask_eq_iff_decode 0b011#3 .init rfl rfl nofun,
    and_opcodeMask_eq_iff_decode 0b100#3 .next rfl rfl nofun,
    and_opcodeMask_eq_iff_decode 0b101#3 .rdstat rfl rfl nofun,
    and_opcodeMask_eq_iff_decode 0b110#3 .rsvd6 rfl rfl nofun,
    and_opcodeMask_eq_iff_decode 0b111#3 .rsvd7 rfl rfl nofun⟩

/-- The data field is read for the opcode of `SEED` alone (R45). -/
theorem decode_cmdWord_data_irrelevant {op : BitVec 3} (hop : op ≠ 0b001#3) (d e : Word) :
    decode (cmdWord op d) = decode (cmdWord op e) := by
  have hopcode : op = (decode (cmdWord op e)).opcode := by rw [opcode_decode, cmdOp_cmdWord]
  exact (decode_eq_iff _ _).mpr ⟨(cmdOp_cmdWord op d).trans hopcode, fun h => absurd (hopcode.trans h) hop⟩

/-- Only `SEED` has an operand (R44). -/
theorem Instr.data_eq_zero {i : Instr} (h : ∀ d, i ≠ .seed d) : i.data = 0 := by
  cases i with
  | seed d => exact absurd rfl (h d)
  | nop | sxnext | init | next | rdstat | rsvd6 | rsvd7 => rfl

/-- Settles O3: the same command by `decode_cmdWord_data_irrelevant`, so the same effect; the encoder's zeros by
`Instr.data_eq_zero`. -/
theorem dataFieldIgnoredExceptBySeed : Obligations.DataFieldIgnoredExceptBySeed := by
  unfold Obligations.DataFieldIgnoredExceptBySeed
  refine ⟨fun op d e hop => ?_, fun i hi => ?_⟩
  · have hsame := decode_cmdWord_data_irrelevant hop d e
    exact ⟨hsame, fun s => by rw [hsame]⟩
  · exact (cmdData_cmdWord i.opcode i.data).trans (Instr.data_eq_zero hi)

end Sys2Proof
end

section
/-!
The response word of every command (R42): the result of a command that meets no fault, and the cause code of one that does.
-/

namespace Sys2Proof.Machine

/-- The data a command answers with `err` = 0, computed from the state before it (R42); none where it meets a fault. -/
def resultOf : Instr → State → Option Word
  | .nop, _ => some 0
  | .seed _, _ => some 0
  | .sxnext, s => s.seedState.map fun x => (sxNext parameters x).2
  | .init, s => s.seedState.map fun _ => 0
  | .next, s => s.gen.map fun g => (genStep parameters g).1
  | .rdstat, s => some s.status
  | .rsvd6, _ => none
  | .rsvd7, _ => none

/-- Every command answers: with the cause code of the fault it meets, or with its result where it meets none (R42). -/
theorem exec_response (i : Instr) (s : State) :
    (∃ c t, faultOf i s = some c ∧ exec i s = .next t ∧ t.rsp = some (rspWord true c.code)) ∨
    (∃ d t, faultOf i s = none ∧ resultOf i s = some d ∧ exec i s = .next t ∧ t.rsp = some (rspWord false d)) := by
  obtain ⟨seedState, gen⟩ := s
  cases i with
  | nop | seed | rdstat => exact .inr ⟨_, _, rfl, rfl, rfl, rfl⟩
  | sxnext | init =>
    cases seedState with
    | none => exact .inl ⟨_, _, rfl, rfl, rfl⟩
    | some x => exact .inr ⟨_, _, rfl, rfl, rfl, rfl⟩
  | next =>
    cases gen with
    | none => exact .inl ⟨_, _, rfl, rfl, rfl⟩
    | some g => exact .inr ⟨_, _, rfl, rfl, rfl, rfl⟩
  | rsvd6 | rsvd7 => exact .inl ⟨_, _, rfl, rfl, rfl⟩

/-- The number of a response word (R42). -/
theorem rspWord_toNat (e : Bool) (d : Word) : (rspWord e d).toNat = e.toNat * 2 ^ 64 + d.toNat := by
  rw [rspWord, toNat_append_eq_add, BitVec.toNat_ofBool]

/-- Settles O6: the fields by the laws of response words, what each command answers by `exec_response`, and the result of
each command read off `resultOf`. -/
theorem responseWordPerCommand : Obligations.ResponseWordPerCommand := by
  unfold Obligations.ResponseWordPerCommand
  refine ⟨fun e d => ⟨rspWord_toNat e d, rspErr_rspWord e d, rspData_rspWord e d⟩, fun i s => ?_⟩
  obtain ⟨c, t, hf, he, hr⟩ | ⟨d, t, hf, hd, he, hr⟩ := exec_response i s
  · refine ⟨t, _, he, hr, by simp [hf], fun c' hc' => ?_, fun herr => by simp at herr⟩
    obtain rfl : c = c' := Option.some.inj (hf.symm.trans hc')
    exact rspData_rspWord true c.code
  · refine ⟨t, _, he, hr, by simp [hf], by simp [hf], fun _ => ?_⟩
    rw [rspData_rspWord]
    cases i with
    | sxnext =>
      obtain ⟨x, hx, hres⟩ := Option.map_eq_some_iff.mp hd
      exact ⟨x, hx, hres.symm⟩
    | next =>
      obtain ⟨g, hg, hres⟩ := Option.map_eq_some_iff.mp hd
      exact ⟨g, hg, hres.symm⟩
    | init =>
      obtain ⟨_, -, hres⟩ := Option.map_eq_some_iff.mp hd
      exact hres.symm
    | nop | seed | rdstat => exact (Option.some.inj hd).symm
    | rsvd6 | rsvd7 => cases hd

end Sys2Proof.Machine
end

section
/-!
The pseudo-instructions of the assembler (R53), and the step at which the host presents a command (R50).
-/

namespace Sys2Proof.Machine

/-- A program of well-formed lines assembles to the words of the commands its lines stand for (R52). -/
theorem assemble_of_wf {lines : List SourceLine} (h : lines.all SourceLine.wf = true) :
    assemble lines = .ok ((lines.flatMap expand).map encode) :=
  if_pos h

/-- Settles O8: `SEEDINIT` has the check and the expansion of its two lines, and the words of the two pseudo-instructions
are by `assemble_of_wf` those of `SEED`, `INIT` and `NEXT`. -/
theorem pseudoInstructionsExpand : Obligations.PseudoInstructionsExpand := by
  unfold Obligations.PseudoInstructionsExpand
  have hdraw (n : Nat) : assemble [.draw n] = .ok (List.replicate n 0x40000000000000000#67) := by
    rw [assemble_of_wf rfl, List.flatMap_singleton, expand, List.map_replicate]
    rfl
  refine ⟨fun n => ?_, fun n hn => ?_, hdraw, hdraw 0⟩
  · simp only [assemble, List.all_cons, List.all_nil, SourceLine.wf, Bool.and_true]
    rfl
  · rw [assemble_of_wf (by simp only [List.all_cons, List.all_nil, SourceLine.wf, hn, decide_true, Bool.and_true])]
    rfl

/-- Settles O45: by `step_present`, and for the word of a command by `decode_encode`. -/
theorem stepExecutesThePresentedCommand : Obligations.StepExecutesThePresentedCommand := by
  unfold Obligations.StepExecutesThePresentedCommand
  refine ⟨fun s w rest hr => step_present hr w rest, fun s i rest hr _ => ?_⟩
  rw [step_present hr, decode_encode]

end Sys2Proof.Machine
end

section
/-!
The primitives of the datapath as numbers and bit by bit (R54 to R59). Rotation is known by where it takes each bit; that
two rotations on to 64 give the word back follows from that alone.
-/

namespace Sys2Proof.Machine

theorem add64_toNat (a b : Word) : (add64 a b).toNat = (a.toNat + b.toNat) % 2 ^ 64 := BitVec.toNat_add a b

/-- Settles O10: the sum by `add64_toNat`, the examples by evaluation. -/
theorem addIsModulo64Bits : Obligations.AddIsModulo64Bits := by
  unfold Obligations.AddIsModulo64Bits
  exact ⟨add64_toNat, by decide⟩

theorem mul64_toNat (a b : Word) : (mul64 a b).toNat = (a.toNat * b.toNat) % 2 ^ 64 := BitVec.toNat_mul a b

/-- The product of the operands read as signed has the same low 64 bits (R55). -/
theorem mul64_eq_ofInt (a b : Word) : mul64 a b = BitVec.ofInt 64 (a.toInt * b.toInt) := by
  rw [BitVec.ofInt_mul, BitVec.ofInt_toInt, BitVec.ofInt_toInt, mul64]

@[simp] theorem mul64_zero_left (b : Word) : mul64 0 b = 0 := BitVec.zero_mul

/-- Settles O11: unsigned by `mul64_toNat`, signed by `mul64_eq_ofInt`, the examples by evaluation. -/
theorem mulKeepsTheLow64Bits : Obligations.MulKeepsTheLow64Bits := by
  unfold Obligations.MulKeepsTheLow64Bits
  exact ⟨fun a b => ⟨mul64_toNat a b, mul64_eq_ofInt a b⟩, mul64_zero_left, by decide⟩

theorem xor64_bit (a b : Word) (i : Nat) : (xor64 a b).getLsbD i = (a.getLsbD i ^^ b.getLsbD i) := BitVec.getLsbD_xor

theorem shr64_toNat (a : Word) (k : Nat) : (shr64 a k).toNat = a.toNat / 2 ^ k := by
  rw [shr64, BitVec.toNat_ushiftRight, Nat.shiftRight_eq_div_pow]

theorem shr64_bit (a : Word) (k i : Nat) : (shr64 a k).getLsbD i = a.getLsbD (i + k) := by
  rw [shr64, BitVec.getLsbD_ushiftRight, Nat.add_comm]

@[simp] theorem shr64_zero (a : Word) : shr64 a 0 = a := BitVec.ushiftRight_zero a

theorem shl64_toNat (a : Word) (k : Nat) : (shl64 a k).toNat = (a.toNat * 2 ^ k) % 2 ^ 64 := by
  rw [shl64, BitVec.toNat_shiftLeft, Nat.shiftLeft_eq]

theorem shl64_bit (a : Word) (k : Nat) {i : Nat} (hi : i < 64) :
    (shl64 a k).getLsbD i = if k ≤ i then a.getLsbD (i - k) else false := by
  rw [shl64, BitVec.getLsbD_shiftLeft, decide_eq_true hi]
  by_cases h : k ≤ i <;> simp [h]

@[simp] theorem shl64_zero (a : Word) : shl64 a 0 = a := BitVec.shiftLeft_zero a

/-- Settles O12: each primitive by its `_toNat`, `_bit` and `_zero` lemmas; a bit above bit 63 of the shifted word is 0. -/
theorem xorAndShiftsBitByBit : Obligations.XorAndShiftsBitByBit := by
  unfold Obligations.XorAndShiftsBitByBit
  refine ⟨fun a b i _ => xor64_bit a b i, by decide, fun a k _ => ⟨shr64_toNat a k, fun i _ => ?_⟩, shr64_zero, by decide,
    by decide, fun a k _ => ⟨shl64_toNat a k, fun i hi => shl64_bit a k hi⟩, shl64_zero⟩
  rw [shr64_bit]
  split_ifs with h
  · rfl
  · exact BitVec.getLsbD_of_ge a (i + k) (by omega)

/-- R59's rotation, its two cases together, is the library's. -/
theorem rotl64_eq_rotateLeft (x : Word) (k : Nat) : rotl64 x k = x.rotateLeft k := by
  unfold rotl64
  split_ifs with h
  · have hgone : x >>> 64 = 0#64 := BitVec.ushiftRight_eq_zero (Nat.le_refl 64)
    simp [BitVec.rotateLeft, BitVec.rotateLeftAux, h, hgone]
  · rfl

@[simp] theorem rotl64_zero (x : Word) : rotl64 x 0 = x := if_pos rfl

/-- Every amount counts modulo 64 (D27). -/
theorem rotl64_mod (x : Word) (k : Nat) : rotl64 x k = rotl64 x (k % 64) := by
  rw [rotl64_eq_rotateLeft, rotl64_eq_rotateLeft, BitVec.rotateLeft_mod_eq_rotateLeft]

theorem rotl64_eq_or_shifts (x : Word) {k : Nat} (hk : k < 64) : rotl64 x k = shl64 x k ||| shr64 x (64 - k) := by
  rw [rotl64_eq_rotateLeft, BitVec.rotateLeft_eq_rotateLeftAux_of_lt hk]
  rfl

/-- Rotation takes bit `i` to bit `i + k` modulo 64 (R59). -/
theorem rotl64_bit (x : Word) (k : Nat) {i : Nat} (hi : i < 64) :
    (rotl64 x k).getLsbD ((i + k) % 64) = x.getLsbD i := by
  rw [rotl64_eq_rotateLeft, BitVec.getLsbD_rotateLeft]
  by_cases hwrap : i + k % 64 < 64
  · have hpos : (i + k) % 64 = i + k % 64 := by omega
    simp [hpos, hwrap]
  · have hpos : (i + k) % 64 = i + k % 64 - 64 := by omega
    have hlow : i + k % 64 - 64 < k % 64 := by omega
    have hsource : 64 - k % 64 + (i + k % 64 - 64) = i := by omega
    simp [hpos, hlow, hsource]

/-- Two rotations by amounts that together make whole turns give the word back: every bit returns to its place. -/
theorem rotl64_rotl64_of_dvd (x : Word) {k m : Nat} (h : 64 ∣ k + m) : rotl64 (rotl64 x k) m = x :=
  BitVec.eq_of_getLsbD_eq fun i hi => by
    have hback : ((i + k) % 64 + m) % 64 = i := by omega
    calc (rotl64 (rotl64 x k) m).getLsbD i
        = (rotl64 (rotl64 x k) m).getLsbD (((i + k) % 64 + m) % 64) := by rw [hback]
      _ = (rotl64 x k).getLsbD ((i + k) % 64) := rotl64_bit _ m (by omega)
      _ = x.getLsbD i := rotl64_bit x k hi

/-- Settles O13: the bits by `rotl64_bit`, the round trip by `rotl64_rotl64_of_dvd`, the examples by evaluation. -/
theorem rotationBitByBitAndRoundTrip : Obligations.RotationBitByBitAndRoundTrip := by
  unfold Obligations.RotationBitByBitAndRoundTrip
  exact ⟨fun x k _ hi => rotl64_bit x k hi, fun x _ _ hk => rotl64_eq_or_shifts x (by omega), rotl64_zero, rotl64_mod,
    fun x _ hk => rotl64_rotl64_of_dvd x (by omega), by decide⟩

end Sys2Proof.Machine
end

section
/-!
Adding an odd constant (R65): an odd word is a unit of the ring of words, so its multiples are 0 only at multiples of the
modulus, and reach every word. The two registers that `SXNEXT` and `NEXT` advance in this way follow it through the fold of R9.
-/

namespace Sys2Proof

/-- An odd word has an inverse modulo 2^k. -/
theorem isUnit_of_odd {k : Nat} {c : BitVec k} (hc : c.getLsbD 0 = true) : IsUnit c := by
  have hodd : c.toNat % 2 = 1 := by simpa [BitVec.getLsbD, Nat.testBit_zero] using hc
  have hlt : 1 < 2 ^ k := by have := c.isLt; omega
  obtain ⟨m, -, hm⟩ := Nat.exists_mul_mod_eq_one_of_coprime ((Nat.odd_iff.mpr hodd).coprime_two_right.pow_right k) hlt
  refine IsUnit.of_mul_eq_one (BitVec.ofNat k m) (BitVec.eq_of_toNat_eq ?_)
  rw [BitVec.toNat_mul, BitVec.toNat_ofNat, Nat.mul_mod_mod, hm]
  exact (Nat.mod_eq_of_lt hlt).symm

theorem ofNat_eq_zero_iff_dvd (k n : Nat) : BitVec.ofNat k n = 0 ↔ 2 ^ k ∣ n := by
  rw [BitVec.toNat_eq, BitVec.toNat_ofNat, Nat.dvd_iff_mod_eq_zero]
  exact Iff.rfl

/-- `n` additions of `c` add `n * c`. -/
theorem iterate_add_const {k : Nat} (c x : BitVec k) (n : Nat) :
    (fun y => y + c)^[n] x = x + BitVec.ofNat k n * c := by
  rw [add_right_iterate_apply, nsmul_eq_mul, BitVec.natCast_eq_ofNat]

/-- `n` additions of an odd constant give the word back exactly when 2^k divides `n`: no shorter cycle (R65). -/
theorem iterate_add_odd_eq_self_iff {k : Nat} {c : BitVec k} (hc : c.getLsbD 0 = true) (x : BitVec k) (n : Nat) :
    (fun y => y + c)^[n] x = x ↔ 2 ^ k ∣ n := by
  rw [iterate_add_const, add_eq_left, (isUnit_of_odd hc).mul_left_eq_zero, ofNat_eq_zero_iff_dvd]

/-- Fewer than 2^k additions of an odd constant bring any word to any other: the one cycle meets every word (R65). -/
theorem exists_iterate_add_odd_eq {k : Nat} {c : BitVec k} (hc : c.getLsbD 0 = true) (x y : BitVec k) :
    ∃ n, n < 2 ^ k ∧ (fun z => z + c)^[n] x = y := by
  obtain ⟨m, hm⟩ := (isUnit_of_odd hc).dvd (a := y - x)
  refine ⟨m.toNat, m.isLt, ?_⟩
  rw [iterate_add_const, BitVec.ofNat_toNat, BitVec.setWidth_eq, mul_comm, ← hm, add_sub_cancel]

namespace Machine

/-- `SXNEXT` with a seed loaded (R69). -/
theorem exec_sxnext_of_seed {s : State} {x : Word} (hx : s.seedState = some x) :
    exec .sxnext s = .next ((s.setSeed (sxNext parameters x).1).respondOk (sxNext parameters x).2) := by
  simp only [exec, execSxnext, hx]

/-- `NEXT` with a triple (R74). -/
theorem exec_next_of_gen {s : State} {g : GeneratorState} (hg : s.gen = some g) :
    exec .next s = .next ((s.setGen (genStep parameters g).2).respondOk (genStep parameters g).1) := by
  simp only [exec, execNext, hg]

/-- The state that the command `i` leaves, in the fold of R9. -/
theorem blockStep_encode_of_exec {s t : State} {i : Instr} (h : exec i s = .next t) : (blockStep s (encode i)).1 = t :=
  Host.Outcome.next.inj ((exec_eq_blockStep s (encode i)).symm.trans (by rw [decode_encode, h]))

/-- `SXNEXT` adds `SX_GAMMA` to `seedState` (R67, R69). -/
theorem blockStep_sxnext_seedState (s : State) (x : Word) (hx : s.seedState = some x) :
    (blockStep s (encode .sxnext)).1.seedState = some (x + parameters.sxGamma) := by
  rw [blockStep_encode_of_exec (exec_sxnext_of_seed hx)]
  rfl

/-- `NEXT` adds `FC_INC` to `fastCounter` (R72, R74). -/
theorem blockStep_next_fastCounter (s : State) (x : Word) (hx : s.fastCounter = some x) :
    (blockStep s (encode .next)).1.fastCounter = some (x + parameters.fcInc) := by
  obtain ⟨g, hg, rfl⟩ := Option.map_eq_some_iff.mp hx
  rw [blockStep_encode_of_exec (exec_next_of_gen hg)]
  rfl

/-- A register that one command advances by `f` is advanced by `n` of them `n` times. -/
theorem after_replicate_of_blockStep {read : State → Option Word} {w : CmdWord} {f : Word → Word}
    (hstep : ∀ s x, read s = some x → read (blockStep s w).1 = some (f x)) (n : Nat) {s : State} {x : Word}
    (hx : read s = some x) : read (after s (List.replicate n w)) = some (f^[n] x) := by
  induction n generalizing s x with
  | zero => exact hx
  | succ n ih => exact ih (hstep s x hx)

/-- A register to which one command adds an odd constant is brought to every value by fewer than 2^64 of them (R65). -/
theorem exists_replicate_reaches {read : State → Option Word} {w : CmdWord} {c : Word} (hc : c.getLsbD 0 = true)
    (hstep : ∀ s x, read s = some x → read (blockStep s w).1 = some (x + c)) {s : State} {x : Word}
    (hx : read s = some x) (y : Word) : ∃ n, n < 2 ^ 64 ∧ read (after s (List.replicate n w)) = some y := by
  obtain ⟨n, hn, hy⟩ := exists_iterate_add_odd_eq hc x y
  exact ⟨n, hn, by rw [after_replicate_of_blockStep hstep n hx, hy]⟩

/-- Settles O16: the cycle by `iterate_add_odd_eq_self_iff` and `exists_iterate_add_odd_eq`, the registers by
`exists_replicate_reaches`, the parity of the two constants by `parameters_odd_and_in_range`. -/
theorem oddIncrementHasFullPeriod : Obligations.OddIncrementHasFullPeriod := by
  unfold Obligations.OddIncrementHasFullPeriod
  obtain ⟨hgamma, -, -, hinc, -, -⟩ := parameters_odd_and_in_range
  refine ⟨fun k c x hc => ⟨iterate_add_const c x, iterate_add_odd_eq_self_iff hc x, exists_iterate_add_odd_eq hc x⟩,
    hinc, hgamma, fun s x y hx => ?_, fun s g y hg => ?_⟩
  · exact exists_replicate_reaches hgamma blockStep_sxnext_seedState hx y
  · exact exists_replicate_reaches hinc blockStep_next_fastCounter (Option.map_eq_some_iff.mpr ⟨g, hg, rfl⟩) y

end Machine

end Sys2Proof
end

section
/-!
The Seed Expander (41_seed_expander.md): where the avalanche function is 0, the effect of `SEED` and `SXNEXT` in every state,
and the run of the two.
-/

namespace Sys2Proof.Machine

/-- An XOR-shift by at least one bit is 0 at 0 alone: a word equal to its own right shift is 0 (R64). -/
theorem xsr_eq_zero_iff {k : Nat} (hk : 1 ≤ k) (z : Word) : xsr z k = 0 ↔ z = 0 := by
  have hself : xsr z k = 0 ↔ z = shr64 z k := BitVec.xor_eq_zero_iff
  rw [hself, BitVec.toNat_eq, shr64_toNat, eq_comm, Nat.div_eq_self, BitVec.toNat_eq]
  exact or_iff_left (Nat.one_lt_two_pow (Nat.ne_of_gt hk)).ne'

/-- A product with an odd word is 0 at 0 alone (R64). -/
theorem mul64_odd_eq_zero_iff {m : Word} (hm : m.getLsbD 0 = true) (z : Word) : mul64 z m = 0 ↔ z = 0 :=
  (isUnit_of_odd hm).mul_left_eq_zero

/-- The avalanche function of a well-formed configuration is 0 at 0 alone, since each of its five stages is (R64). -/
theorem mix64_eq_zero_iff {p : Config} (hp : p.wf = true) (z : Word) : mix64 p z = 0 ↔ z = 0 := by
  simp only [Config.wf, Bool.and_eq_true, decide_eq_true_eq] at hp
  obtain ⟨⟨⟨⟨⟨⟨⟨⟨-, hmul1⟩, hmul2⟩, -⟩, -⟩, -⟩, hshift1, -⟩, hshift2, -⟩, hshift3, -⟩ := hp
  simp only [mix64]
  rw [xsr_eq_zero_iff hshift3, mul64_odd_eq_zero_iff hmul2, xsr_eq_zero_iff hshift2, mul64_odd_eq_zero_iff hmul1,
    xsr_eq_zero_iff hshift1]

/-- The expander outputs 0 from one SeedState alone: the one that the increment takes to 0 (R67, R69). -/
theorem sxNext_output_eq_zero_iff {p : Config} (hp : p.wf = true) (x : Word) : (sxNext p x).2 = 0 ↔ x = -p.sxGamma :=
  (mix64_eq_zero_iff hp _).trans eq_neg_iff_add_eq_zero.symm

/-- `SEED` (R68). -/
theorem exec_seed (d : Word) (s : State) : exec (.seed d) s = .next ((s.setSeed d).respondOk 0) := rfl

/-- `SXNEXT` without a seed (R69). -/
theorem exec_sxnext_of_noSeed {s : State} (hs : s.seedState = none) : exec .sxnext s = .next (s.raise .seedNotLoaded) := by
  simp only [exec, execSxnext, hs]

/-- R9's function on the word of the command `i`: the state it leaves, and its response. -/
theorem blockStep_encode {s t : State} {i : Instr} {r : RspWord} (h : exec i s = .next t) (hr : t.rsp = some r) :
    blockStep s (encode i) = (t, r) :=
  blockStep_of_next ((congrArg (exec · s) (decode_encode i)).trans h) hr

/-- A `SEED` and an `SXNEXT` answer zero and the first expander output of the seed, and leave the seed advanced once, whatever
the state before them (R68, R69). -/
theorem run_seed_sxnext (s : State) (d : Word) :
    responses s [encode (.seed d), encode .sxnext] = [rspWord false 0, rspWord false (sxNext parameters d).2] ∧
    (after s [encode (.seed d), encode .sxnext]).seedState = some (sxNext parameters d).1 := by
  have hseed := blockStep_encode (exec_seed d s) (State.respondOk_rsp (s.setSeed d) 0)
  have hloaded : ((s.setSeed d).respondOk 0).seedState = some d := rfl
  have hsxnext := blockStep_encode (exec_sxnext_of_seed hloaded) (State.respondOk_rsp _ _)
  rw [responses_cons, responses_cons, responses_nil, after_cons, after_cons, after_nil, hseed, hsxnext]
  exact ⟨rfl, rfl⟩

/-- Settles O21: the two paths by `exec_sxnext_of_seed` and `exec_sxnext_of_noSeed`, the one seed with output 0 by
`sxNext_output_eq_zero_iff`, the `INIT` after it by `exec_init_of_seed`, the example by `run_seed_sxnext`. -/
theorem sxnextAdvancesTheSeedOrFaults : Obligations.SxnextAdvancesTheSeedOrFaults := by
  unfold Obligations.SxnextAdvancesTheSeedOrFaults
  refine ⟨fun d => decode_cmdWord_opcode .sxnext d nofun, fun _ _ hx => exec_sxnext_of_seed hx,
    fun _ hs => exec_sxnext_of_noSeed hs, by decide, by decide, sxNext_output_eq_zero_iff (by decide),
    fun s t x hx ht => ?_, fun s => ?_⟩
  · rw [exec_sxnext_of_seed hx] at ht
    cases ht
    exact ⟨_, exec_init_of_seed rfl, rfl⟩
  · obtain ⟨hresponses, hseed⟩ := run_seed_sxnext s 1#64
    exact ⟨hresponses.trans (by decide), hseed.trans (by decide)⟩

/-- Settles O17: the increment and the stages as `sxNext` and `mix64` compute them, with R6's shift amounts. -/
theorem expanderIncrementsThenMixes : Obligations.ExpanderIncrementsThenMixes := by
  unfold Obligations.ExpanderIncrementsThenMixes
  refine ⟨fun _ => rfl, ⟨30, 27, 31, ?_⟩, by decide⟩
  exact ⟨by decide, by decide, by decide, by decide, by decide, by decide, fun _ => rfl⟩

/-- Settles O20: the effect by `exec_seed`, the first output of the seed 0 by `run_seed_sxnext`. -/
theorem seedLoadsTheSeed : Obligations.SeedLoadsTheSeed := by
  unfold Obligations.SeedLoadsTheSeed
  refine ⟨fun d => decode_cmdWord_opcode (.seed d) d fun _ => rfl, fun d s => exec_seed d s, fun s => ?_, ?_⟩
  · exact (run_seed_sxnext s 0).1.trans (by decide)
  · exact ⟨_, exec_seed 1 State.reset, by decide, rfl, by decide⟩

end Sys2Proof.Machine
end

section
/-!
The Generator Core (42_generator_core.md): the three words of `INIT` and where they are 0, what two steps of the pure function
read of the first triple, and the effect of `INIT` and `NEXT` in every state and after a `SEED`.
-/

namespace Sys2Proof.Machine

/-- The three SeedStates that `INIT` mixes, each from the seed (R67, R73, R75). -/
theorem initTriple_eq (p : Config) (x : Word) : initTriple p x =
    ⟨mix64 p (x + p.sxGamma), mix64 p (x + 2 * p.sxGamma), mix64 p (x + 3 * p.sxGamma)⟩ := by
  have htwo : x + p.sxGamma + p.sxGamma = x + 2 * p.sxGamma := by ring
  have hthree : x + 2 * p.sxGamma + p.sxGamma = x + 3 * p.sxGamma := by ring
  simp only [initTriple, sxNext, add64, htwo, hthree]

/-- The avalanche function is 0 at 0 alone, so it is not 0 at two different distances from one seed (R64, R73). -/
theorem not_mix64_add_eq_zero_and {c d : Word} (hcd : c ≠ d) (x : Word) :
    ¬(mix64 parameters (x + c) = 0 ∧ mix64 parameters (x + d) = 0) := by
  rintro ⟨hc, hd⟩
  rw [mix64_eq_zero_iff (by decide)] at hc hd
  exact hcd (add_left_cancel (hc.trans hd.symm))

/-- At most one word of the triple that `INIT` leaves is 0 (R27 (b), R73). -/
theorem initTriple_at_most_one_zero (x : Word) :
    ¬((initTriple parameters x).fastCounter = 0 ∧ (initTriple parameters x).mix = 0) ∧
    ¬((initTriple parameters x).mix = 0 ∧ (initTriple parameters x).loopMix = 0) ∧
    ¬((initTriple parameters x).fastCounter = 0 ∧ (initTriple parameters x).loopMix = 0) := by
  rw [initTriple_eq]
  exact ⟨not_mix64_add_eq_zero_and (by decide) x, not_mix64_add_eq_zero_and (by decide) x,
    not_mix64_add_eq_zero_and (by decide) x⟩

/-- `INIT` without a seed (R73). -/
theorem exec_init_of_noSeed {s : State} (hs : s.seedState = none) : exec .init s = .next (s.raise .seedNotLoaded) := by
  simp only [exec, execInit, hs]

/-- `INIT` leaves no seed: a success discards it, and a fault had none (R16, R73). -/
theorem exec_init_seedState {s t : State} (ht : exec .init s = .next t) : t.seedState = none := by
  cases hs : s.seedState with
  | none =>
    rw [exec_init_of_noSeed hs] at ht
    cases ht
    exact (s.raise_seedState _).trans hs
  | some x =>
    rw [exec_init_of_seed hs] at ht
    cases ht
    rfl

/-- `NEXT` without a triple (R74). -/
theorem exec_next_of_noGen {s : State} (hs : s.gen = none) : exec .next s = .next (s.raise .generatorNotSeeded) := by
  simp only [exec, execNext, hs]

/-- The state after a `SEED` (R68). -/
theorem after_seed (s : State) (d : Word) : after s [encode (.seed d)] = (s.setSeed d).respondOk 0 := by
  rw [after_cons, after_nil, blockStep_encode_of_exec (exec_seed d s)]

/-- The state after a `SEED` and an `INIT` (R68, R73). -/
theorem after_seed_init (s : State) (d : Word) : after s [encode (.seed d), encode .init] =
    ((((s.setSeed d).respondOk 0).setGen (initTriple parameters d)).dropSeed).respondOk 0 := by
  have hloaded : ((s.setSeed d).respondOk 0).seedState = some d := rfl
  rw [after_cons, after_cons, after_nil, blockStep_encode_of_exec (exec_seed d s),
    blockStep_encode_of_exec (exec_init_of_seed hloaded)]

/-- The triple of seed 1, worked in the rule's example (R73). -/
theorem initTriple_one : initTriple parameters 1 =
    ⟨0x910a2dec89025cc1#64, 0xbeeb8da1658eec67#64, 0xf893a2eefb32555e#64⟩ := by decide

/-- Settles O22: the two paths by `exec_init_of_seed`, with the words of `initTriple_eq`, and `exec_init_of_noSeed`; the second
`INIT` by `exec_init_seedState`, the zero words by `initTriple_at_most_one_zero`, the example by `after_seed`. -/
theorem initTakesThreeOutputsOrFaults : Obligations.InitTakesThreeOutputsOrFaults := by
  unfold Obligations.InitTakesThreeOutputsOrFaults
  refine ⟨fun d => decode_cmdWord_opcode .init d nofun, fun s x hx => ?_, fun _ hs => exec_init_of_noSeed hs,
    fun _ _ ht => exec_init_of_noSeed (exec_init_seedState ht), fun s t g hs ht hg => ?_, by decide, ?_⟩
  · rw [exec_init_of_seed hx, initTriple_eq]
    rfl
  · obtain ⟨x, hx⟩ := Option.ne_none_iff_exists'.mp hs
    rw [exec_init_of_seed hx] at ht
    cases ht
    cases hg
    exact initTriple_at_most_one_zero x
  · have hloaded : after State.reset [0x10000000000000001#67] = (State.reset.setSeed 1).respondOk 0 := after_seed _ 1
    rw [hloaded]
    exact ⟨_, exec_init_of_seed rfl, rfl, by decide, congrArg some initTriple_one⟩

/-- The second output is the new `mix` plus the new `loopMix`, and into the latter went the old `fastCounter` (R72). -/
theorem genStep_genStep_output (p : Config) (fc mx lm : Word) :
    (genStep p (genStep p ⟨fc, mx, lm⟩).2).1 = (rotl64 mx p.rotMix + rotl64 lm p.rotLoop) + (fc ^^^ mx) := rfl

/-- The second output tells any two old `fastCounter`s apart: the rest of the sum, and the exclusive or, cancel (R72). -/
theorem genStep_genStep_output_inj (p : Config) {fc fc' mx lm : Word}
    (h : (genStep p (genStep p ⟨fc, mx, lm⟩).2).1 = (genStep p (genStep p ⟨fc', mx, lm⟩).2).1) : fc = fc' := by
  rw [genStep_genStep_output, genStep_genStep_output] at h
  exact (BitVec.xor_left_inj mx).mp (add_left_cancel h)

/-- Settles O18: the step as `genStep` computes it, the old `fastCounter` in the next output by `genStep_genStep_output_inj`. -/
theorem generatorStepReadsOnlyTheOldTriple : Obligations.GeneratorStepReadsOnlyTheOldTriple := by
  unfold Obligations.GeneratorStepReadsOnlyTheOldTriple
  exact ⟨fun _ _ _ => rfl, fun _ _ _ _ => rfl, fun _ _ _ _ hne h => hne (genStep_genStep_output_inj parameters h),
    by decide⟩

/-- `fastCounter` advances by `FC_INC` whatever the other two words hold (R72). -/
theorem genStep_fastCounter (p : Config) (fc mx lm : Word) :
    (genStep p ⟨fc, mx, lm⟩).2.fastCounter = fc + p.fcInc := rfl

/-- Settles O23: the two paths by `exec_next_of_gen` and `exec_next_of_noGen`, the wrap through 0 by
`genStep_fastCounter`, the all-zero triple by evaluation, the first draw after seed 1 by `after_seed_init`. -/
theorem nextDrawsAndAdvancesOrFaults : Obligations.NextDrawsAndAdvancesOrFaults := by
  unfold Obligations.NextDrawsAndAdvancesOrFaults
  refine ⟨fun d => decode_cmdWord_opcode .next d nofun, fun _ _ hg => exec_next_of_gen hg, fun _ hs => exec_next_of_noGen hs,
    fun _ mx => add_neg_cancel mx, fun mx lm => (genStep_fastCounter parameters _ mx lm).trans (by decide),
    by decide, by decide, by decide, ?_⟩
  have hgen : (after State.reset [0x10000000000000001#67, 0x30000000000000000#67]).gen =
      some ⟨0x910a2dec89025cc1#64, 0xbeeb8da1658eec67#64, 0xf893a2eefb32555e#64⟩ :=
    (congrArg State.gen (after_seed_init _ 1)).trans (congrArg some initTriple_one)
  refine ⟨_, exec_next_of_gen hgen, ?_, by decide, ?_⟩
  · rw [State.respondOk_rsp]
    decide
  · rw [State.respondOk_gen, State.setGen_gen]
    decide

end Sys2Proof.Machine
end

section
/-!
The system commands (43_system.md): the effect of `NOP`, `RDSTAT` and the reserved opcodes in every state, that no command
reads the response port, and the flags that `RDSTAT` reads after a seeding and after a fault.
-/

namespace Sys2Proof.Machine

/-- `NOP` (R80). -/
theorem exec_nop (s : State) : exec .nop s = .next (s.respondOk 0) := rfl

/-- `RDSTAT` (R81). -/
theorem exec_rdstat (s : State) : exec .rdstat s = .next (s.respondOk s.status) := rfl

/-- The reserved opcode 0b110 (R82). -/
theorem exec_rsvd6 (s : State) : exec .rsvd6 s = .next (s.raise .illegalCommand) := rfl

/-- The reserved opcode 0b111 (R82). -/
theorem exec_rsvd7 (s : State) : exec .rsvd7 s = .next (s.raise .illegalCommand) := rfl

/-- What stands on the response port enters no command, since every command replaces it (R17, R51). -/
@[simp] theorem exec_setRsp (i : Instr) (s : State) (r : RspWord) : exec i (s.setRsp r) = exec i s := by
  obtain ⟨seedState, gen⟩ := s
  cases i with
  | nop | seed | rdstat | rsvd6 | rsvd7 => rfl
  | sxnext | init => cases seedState <;> rfl
  | next => cases gen <;> rfl

/-- A command executes after a `NOP` as it would have without it (R80). -/
theorem exec_of_exec_nop (i : Instr) {s t : State} (ht : exec .nop s = .next t) : exec i t = exec i s := by
  rw [exec_nop] at ht
  cases ht
  exact exec_setRsp i s _

/-- Settles O19: the effect by `exec_nop`, the `NEXT` after it by `exec_of_exec_nop`. -/
theorem nopAnswersAndWritesNothing : Obligations.NopAnswersAndWritesNothing := by
  unfold Obligations.NopAnswersAndWritesNothing
  exact ⟨fun d => decode_cmdWord_opcode .nop d nofun, exec_nop, fun _ _ ht => exec_of_exec_nop .next ht⟩

/-- The response to `RDSTAT` is `STATUS` as it is before it (R81). -/
theorem responses_rdstat (s : State) : responses s [encode .rdstat] = [rspWord false s.status] := by
  rw [responses_cons, responses_nil, blockStep_encode (exec_rdstat s) (s.respondOk_rsp _)]

/-- A `SEED` and an `INIT` answer zeros, and a command list after them starts from the state they leave (R68, R73). -/
theorem responses_seed_init (s : State) (d : Word) (ws : List CmdWord) :
    responses s (encode (.seed d) :: encode .init :: ws) =
      rspWord false 0 :: rspWord false 0 :: responses (after s [encode (.seed d), encode .init]) ws := by
  have hloaded : ((s.setSeed d).respondOk 0).seedState = some d := rfl
  rw [after_seed_init, responses_cons, responses_cons, blockStep_encode (exec_seed d s) (State.respondOk_rsp _ 0),
    blockStep_encode (exec_init_of_seed hloaded) (State.respondOk_rsp _ 0)]

/-- After a `SEED` and an `INIT` from reset, `GEN_VALID` alone is set (R20, R73). -/
theorem status_after_seed_init (d : Word) : (after State.reset [encode (.seed d), encode .init]).status = 0x02#64 := by
  rw [after_seed_init]
  simp [State.status, State.seedValid, State.genValid, State.reset]

/-- A `NEXT` without a triple answers cause code 3, and a command list after it starts from the state that fault entry
leaves (R74, R88). -/
theorem responses_next_of_noGen {s : State} (hs : s.gen = none) (ws : List CmdWord) :
    responses s (encode .next :: ws) =
      rspWord true Cause.generatorNotSeeded.code :: responses (s.raise .generatorNotSeeded) ws := by
  rw [responses_cons, blockStep_encode (exec_next_of_noGen hs) (s.raise_rsp _)]

/-- Settles O24: the effect by `exec_rdstat`; in the examples `RDSTAT` by `responses_rdstat`, from the states that the reset,
the seeding (`responses_seed_init`) and the fault (`responses_next_of_noGen`) leave. -/
theorem rdstatReadsTheFlags : Obligations.RdstatReadsTheFlags := by
  unfold Obligations.RdstatReadsTheFlags
  refine ⟨fun d => decode_cmdWord_opcode .rdstat d nofun, exec_rdstat, ?_, ?_, ?_⟩
  · exact (responses_rdstat State.reset).trans (by decide)
  · refine (responses_seed_init State.reset 1 [encode .rdstat]).trans ?_
    rw [responses_rdstat, status_after_seed_init]
    decide
  · refine (responses_next_of_noGen (s := State.reset) rfl [encode .rdstat]).trans ?_
    rw [responses_rdstat]
    decide

/-- Settles O25: both opcodes by fault entry (`exec_rsvd6`, `exec_rsvd7`), the example's word by its opcode. -/
theorem reservedOpcodesFault : Obligations.ReservedOpcodesFault := by
  unfold Obligations.ReservedOpcodesFault
  refine ⟨fun d => ⟨decode_cmdWord_opcode .rsvd6 d nofun, decode_cmdWord_opcode .rsvd7 d nofun⟩, exec_rsvd6, exec_rsvd7, ?_⟩
  have hdecode : decode 0x6deadbeefdeadbeef#67 = .rsvd6 := decode_cmdWord_opcode .rsvd6 0xdeadbeefdeadbeef#64 nofun
  rw [hdecode]
  exact ⟨_, exec_rsvd6 State.reset, State.raise_rsp _ _, by decide⟩

end Sys2Proof.Machine
end

section
/-!
The protocol faults (60_exceptions.md): which command meets which fault (R86, R87), what fault entry leaves (R88), and the
answer of a command that meets none (R85).
-/

namespace Sys2Proof.Machine

/-- The commands that meet a fault, with the conditions under which they do (R87). -/
theorem exists_faultOf_iff (i : Instr) (s : State) :
    (∃ c, faultOf i s = some c) ↔
      i = .rsvd6 ∨ i = .rsvd7 ∨ ((i = .sxnext ∨ i = .init) ∧ s.seedValid = false) ∨ (i = .next ∧ s.genValid = false) := by
  cases i with
  | nop | seed | rdstat | rsvd6 | rsvd7 => simp [faultOf]
  | sxnext | init => cases h : s.seedValid <;> simp [faultOf, h]
  | next => cases h : s.genValid <;> simp [faultOf, h]

/-- The one cause that each command can raise (R86, R87). -/
theorem cause_of_faultOf {i : Instr} {s : State} {c : Cause} (h : faultOf i s = some c) :
    (i = .rsvd6 ∨ i = .rsvd7 → c = .illegalCommand) ∧ (i = .sxnext ∨ i = .init → c = .seedNotLoaded) ∧
      (i = .next → c = .generatorNotSeeded) := by
  refine ⟨?_, ?_, ?_⟩
  · rintro (rfl | rfl) <;> exact (Option.some.inj h).symm
  · rintro (rfl | rfl) <;> exact (Option.some.inj (Option.ite_none_left_eq_some.mp h).2).symm
  · rintro rfl
    exact (Option.some.inj (Option.ite_none_left_eq_some.mp h).2).symm

/-- A command that meets a fault enters it and does nothing else (R88). -/
theorem exec_of_faultOf {i : Instr} {s : State} {c : Cause} (h : faultOf i s = some c) :
    exec i s = .next (s.raise c) := by
  obtain ⟨d, hd, he⟩ | ⟨hn, -⟩ := exec_cases i s
  · obtain rfl : d = c := Option.some.inj (hd.symm.trans h)
    exact he
  · cases hn.symm.trans h

/-- A command that meets no fault answers with `err` = 0 and leaves the sticky flags (R19, R42). -/
theorem exec_of_faultOf_eq_none {i : Instr} {s : State} (h : faultOf i s = none) :
    ∃ t r, exec i s = .next t ∧ t.rsp = some r ∧ rspErr r = false ∧ ∀ c, t.sticky c = s.sticky c := by
  obtain ⟨c, hc, -⟩ | ⟨-, seed, gen, d, he⟩ := exec_cases i s
  · cases hc.symm.trans h
  · exact ⟨_, _, he, State.respondOk_rsp _ d, rspErr_rspWord false d, fun c => by simp⟩

/-- Cause code 0 is never reported (R86). -/
theorem Cause.code_ne_zero (c : Cause) : c.code ≠ 0 := by cases c <;> decide

/-- The bit of `STATUS` that shows the sticky flag of a fault (R86). -/
def Cause.statusBit : Cause → Nat
  | .illegalCommand => 2
  | .seedNotLoaded => 3
  | .generatorNotSeeded => 4

/-- `STATUS` shows each sticky flag at its bit (R20). -/
@[simp] theorem State.status_statusBit (s : State) (c : Cause) : s.status.getLsbD c.statusBit = s.sticky c := by
  simp only [State.status, BitVec.getLsbD_setWidth, BitVec.getLsbD_append]
  cases c <;> simp [Cause.statusBit, State.sticky]

/-- Fault entry sets the `STATUS` bit of the fault (R86, R88). -/
theorem State.raise_status_statusBit (s : State) (c : Cause) : (s.raise c).status.getLsbD c.statusBit = true := by
  simp

/-- Settles O32: which command faults by `exists_faultOf_iff`, with which cause by `cause_of_faultOf`, and all it leaves by
fault entry (`State.raise`). -/
theorem faultsExactlyAsTabulated : Obligations.FaultsExactlyAsTabulated := by
  unfold Obligations.FaultsExactlyAsTabulated
  refine ⟨⟨rfl, rfl, rfl⟩, fun i s => ?_⟩
  rw [← exists_faultOf_iff]
  cases hf : faultOf i s with
  | none =>
    obtain ⟨t, r, he, hr, herr, -⟩ := exec_of_faultOf_eq_none hf
    exact ⟨t, r, he, hr, by simp [herr], by simp [herr]⟩
  | some c =>
    obtain ⟨hill, hnoSeed, hnoGen⟩ := cause_of_faultOf hf
    refine ⟨_, _, exec_of_faultOf hf, s.raise_rsp c, by simp, fun _ => ?_⟩
    rw [rspData_rspWord]
    refine ⟨c.code_ne_zero, fun hi => ?_, fun hi => ?_, fun hi => ?_⟩
    · obtain rfl := hill hi
      exact ⟨rfl, s.raise_status_statusBit .illegalCommand, rfl⟩
    · obtain rfl := hnoSeed hi
      exact ⟨rfl, s.raise_status_statusBit .seedNotLoaded, rfl⟩
    · obtain rfl := hnoGen hi
      exact ⟨rfl, s.raise_status_statusBit .generatorNotSeeded, rfl⟩

/-- The next command that the host presents runs on the state that fault entry leaves (R88). -/
theorem step_raise {s : State} {w : CmdWord} {rest : List HostMove} (c : Cause) (hr : s.resetDone = true)
    (hh : s.host = .present w :: rest) : step (s.raise c) = exec (decode w) { s.raise c with host := rest } := by
  rw [← step_present ((s.raise_resetDone c).trans hr), ← hh, ← s.raise_host c]

/-- Settles O33: fault entry by `exec_of_faultOf`, its effect by the laws of `State.raise`, the next command by
`step_raise`. -/
theorem faultEntryIsPrecise : Obligations.FaultEntryIsPrecise := by
  unfold Obligations.FaultEntryIsPrecise
  exact fun i s c hc => ⟨s.raise c, exec_of_faultOf hc, s.raise_seedState c, s.raise_gen c, s.raise_sticky c, s.raise_rsp c,
    s.raise_host c, s.raise_resetDone c, s.raise_freeCtr c, fun _ _ => step_raise c⟩

/-- Settles O34: under its precondition the command meets no fault, whatever the data, so `exec_of_faultOf_eq_none`
applies. -/
theorem noDataMakesACommandFault : Obligations.NoDataMakesACommandFault := by
  unfold Obligations.NoDataMakesACommandFault
  intro i s hvalid
  refine exec_of_faultOf_eq_none ?_
  cases i with
  | seed => rfl
  | sxnext | init | next => exact if_pos hvalid
  | nop | rdstat | rsvd6 | rsvd7 => exact hvalid.elim

end Sys2Proof.Machine
end

section
/-!
Reset with a command on the wires (70_reset_and_hazards.md): one in flight is abandoned (R102), one presented at the edge is
not accepted (R103). Either way the step is that of the reset block, which holds R26's state and takes the next command.
-/

namespace Sys2Proof.Machine

/-- A reset edge leaves the registers and flags of the reset state (R26, R101). -/
theorem State.resetBlock_sameBlock (s : State) : SameBlock s.resetBlock State.reset := ⟨rfl, rfl, rfl, rfl, rfl⟩

/-- Reset wins over a presented command: the step reads nothing of it (R103). -/
theorem step_reset (s : State) (p : Option CmdWord) (rest : List HostMove) :
    step { s with host := .reset p :: rest } = .next { s with host := rest }.resetBlock :=
  step_cons s (.reset p) rest

/-- Reset wins over a command in flight: the step reads nothing of it (R102). -/
theorem step_resetInFlight (s : State) (w : CmdWord) (rest : List HostMove) :
    step { s with host := .resetInFlight w :: rest } = .next { s with host := rest }.resetBlock :=
  step_cons s (.resetInFlight w) rest

/-- A block just reset accepts and executes the command presented next (R101). -/
theorem step_resetBlock_of_present {s : State} {w : CmdWord} {rest : List HostMove} (hh : s.host = .present w :: rest) :
    step s.resetBlock = exec (decode w) { s.resetBlock with host := rest } := by
  rw [← step_present s.resetBlock_resetDone, ← hh, ← s.resetBlock_host]

/-- Settles O48: the step is that of the reset block (`step_resetInFlight`), which takes the next command
(`step_resetBlock_of_present`). -/
theorem resetAbandonsACommandInFlight : Obligations.ResetAbandonsACommandInFlight := by
  unfold Obligations.ResetAbandonsACommandInFlight
  intro s w rest
  exact ⟨_, step_resetInFlight s w rest, State.resetBlock_rsp _, State.resetBlock_sameBlock _,
    State.resetBlock_resetDone _, State.resetBlock_host _, fun _ _ hrest => step_resetBlock_of_present hrest⟩

/-- Settles O49: with a command presented or with none, the step is that of the reset block (`step_reset`). -/
theorem resetWinsOverAPresentedCommand : Obligations.ResetWinsOverAPresentedCommand := by
  unfold Obligations.ResetWinsOverAPresentedCommand
  intro s w rest
  exact ⟨(step_reset s (some w) rest).trans (step_reset s none rest).symm, _, step_reset s (some w) rest,
    State.resetBlock_rsp _, State.resetBlock_sameBlock _, State.resetBlock_resetDone _, State.resetBlock_host _⟩

end Sys2Proof.Machine
end

section
/-!
The encoder against the decoder (R41, R43, R45, R52): a word and the word of the command it decodes to differ in the data
field at most, and two words decode alike when their fields that are read agree; the assembler's words, line by line.
-/

namespace Sys2Proof

/-- The command that a word decodes to has the word's opcode, and in its own word its own operand. -/
theorem encode_decode (w : CmdWord) : encode (decode w) = cmdWord (cmdOp w) (decode w).data := by
  rw [encode, opcode_decode]

/-- The operand of the command that a word with `SEED`'s opcode decodes to (R44). -/
theorem data_decode_of_seed_opcode {w : CmdWord} (h : cmdOp w = 0b001#3) : (decode w).data = cmdData w := by
  rw [decode_of_seed_opcode h]
  rfl

/-- Two words decode alike exactly when the fields that the decoder reads agree (R43, R45). -/
theorem decode_eq_decode_iff (v w : CmdWord) :
    decode v = decode w ↔ cmdOp v = cmdOp w ∧ (cmdOp v = 0b001#3 → cmdData v = cmdData w) := by
  rw [decode_eq_iff, opcode_decode]
  refine and_congr_right fun hop => ?_
  rw [hop]
  exact imp_congr_right fun hseed => by rw [data_decode_of_seed_opcode hseed]

/-- Settles O4: the command comes back by `decode_encode`, the word by `encode_decode`, and words that decode alike by
`decode_eq_decode_iff`. -/
theorem decodeAndEncodeAgree : Obligations.DecodeAndEncodeAgree := by
  unfold Obligations.DecodeAndEncodeAgree
  refine ⟨decode_encode, fun w ⟨d, hd⟩ => ?_, fun w hw => ?_, decode_eq_decode_iff⟩
  · have hseed : cmdOp w = 0b001#3 := ((decode_eq_iff w _).mp hd).1
    rw [encode_decode, data_decode_of_seed_opcode hseed, cmdWord_fields]
  · rw [encode_decode, Instr.data_eq_zero hw]

/-- The command that a number is read as is that of its word (R41). -/
theorem decode_of_decodeTableWord {nbits n : Nat} {i : Instr} (h : decodeTableWord nbits n = some i) :
    decode (BitVec.ofNat 67 n) = i := by
  by_cases hn : n < 2 ^ 67
  · simpa only [decodeTableWord, decodeNumber, if_pos hn, Option.some.injEq] using h
  · simp only [decodeTableWord, decodeNumber, if_neg hn, reduceCtorEq] at h

/-- Settles O5: the decoder evaluated on the eight words and the two numbers. -/
theorem decodedExampleWords : Obligations.DecodedExampleWords := by
  unfold Obligations.DecodedExampleWords
  decide

namespace Machine

/-- A program with an ill-formed line is refused (R52, log entry 10). -/
theorem assemble_of_not_wf {lines : List SourceLine} (h : ∃ l ∈ lines, l.wf = false) :
    assemble lines = .error .literalTooWide := by
  refine if_neg fun hall => ?_
  obtain ⟨l, hl, hwf⟩ := h
  exact absurd (List.all_eq_true.mp hall l hl) (by simp [hwf])

/-- The data field of the words of a program is zero but for `SEED` (R45, R52). -/
theorem cmdData_eq_zero_of_mem_map_encode {is : List Instr} {w : CmdWord} (hw : w ∈ is.map encode)
    (hseed : ∀ d, decode w ≠ .seed d) : cmdData w = 0 := by
  obtain ⟨i, -, rfl⟩ := List.mem_map.mp hw
  rw [decode_encode] at hseed
  exact (cmdData_cmdWord i.opcode i.data).trans (Instr.data_eq_zero hseed)

/-- The words of a program decode to its commands (R52). -/
theorem map_decode_map_encode (is : List Instr) : (is.map encode).map decode = is := by
  rw [List.map_map, show decode ∘ encode = id from funext decode_encode, List.map_id]

/-- Settles O9: the program assembles to the words of its commands (`assemble_of_wf`), line by line those written out; they
decode to it by `map_decode_map_encode`, and an ill-formed line is refused by `assemble_of_not_wf`. -/
theorem assembledWordsDecodeToTheProgram : Obligations.AssembledWordsDecodeToTheProgram := by
  unfold Obligations.AssembledWordsDecodeToTheProgram
  refine fun lines => ⟨fun hwf => ?_, fun hbad => ⟨_, assemble_of_not_wf hbad⟩⟩
  have hassemble := assemble_of_wf (List.all_eq_true.mpr hwf)
  refine ⟨?_, _, hassemble, map_decode_map_encode _, fun w hw => cmdData_eq_zero_of_mem_map_encode hw⟩
  rw [hassemble, List.map_flatMap]
  refine congrArg Except.ok (List.flatMap_congr fun l _ => ?_)
  cases l with
  | draw n => exact List.map_replicate
  | nop | seed | sxnext | init | next | rdstat | rsvd6 | rsvd7 | seedinit => rfl

end Machine

end Sys2Proof
end

section
/-!
The data registers after a command (R17), and the invariant (R25, R27 (a), R86): `INIT` and `NEXT` alone write the triple, the
one from a seed and the other from a triple, and every response is an answer or a fault's.
-/

namespace Sys2Proof.Machine

/-- What a command leaves in `seedState` (R17). -/
def seedAfter : Instr → State → Option Word
  | .seed d, _ => some d
  | .sxnext, s => s.seedState.map fun x => (sxNext parameters x).1
  | .init, _ => none
  | .nop, s | .next, s | .rdstat, s | .rsvd6, s | .rsvd7, s => s.seedState

/-- What a command leaves in the triple (R17, R25): `INIT` the one its seed gives, `NEXT` the advanced one. -/
def genAfter : Instr → State → Option GeneratorState
  | .init, s => (s.seedState.map (initTriple parameters)).or s.gen
  | .next, s => s.gen.map fun g => (genStep parameters g).2
  | .nop, s | .seed _, s | .sxnext, s | .rdstat, s | .rsvd6, s | .rsvd7, s => s.gen

/-- The data registers after a command, faulting or not. -/
theorem exec_registers {i : Instr} {s t : State} (h : exec i s = .next t) :
    t.seedState = seedAfter i s ∧ t.gen = genAfter i s := by
  obtain ⟨seedState, gen⟩ := s
  cases i with
  | nop | seed | rdstat | rsvd6 | rsvd7 => cases h; exact ⟨rfl, rfl⟩
  | sxnext | init => cases seedState <;> cases h <;> exact ⟨rfl, rfl⟩
  | next => cases gen <;> cases h <;> exact ⟨rfl, rfl⟩

/-- `INIT` and `NEXT` alone write the triple (R25). -/
theorem genAfter_eq_gen {i : Instr} (hinit : i ≠ .init) (hnext : i ≠ .next) (s : State) : genAfter i s = s.gen := by
  cases i with
  | init => exact absurd rfl hinit
  | next => exact absurd rfl hnext
  | nop | seed | sxnext | rdstat | rsvd6 | rsvd7 => rfl

theorem produced_initTriple (x : Word) : Produced (initTriple parameters x) := ⟨x, 0, rfl⟩

theorem Produced.genStep {g : GeneratorState} (h : Produced g) : Produced (genStep parameters g).2 := by
  obtain ⟨seed, n, rfl⟩ := h
  exact ⟨seed, n + 1, rfl⟩

/-- A command leaves a triple that went through the Seed Expander, if it found none other (R27 (a)). -/
theorem genAfter_produced {i : Instr} {s : State} (hs : ∀ g, s.gen = some g → Produced g) :
    ∀ g, genAfter i s = some g → Produced g := by
  intro g hg
  cases i with
  | init =>
    obtain hinit | ⟨-, hold⟩ := Option.or_eq_some_iff.mp hg
    · obtain ⟨x, -, rfl⟩ := Option.map_eq_some_iff.mp hinit
      exact produced_initTriple x
    · exact hs g hold
  | next =>
    obtain ⟨g₀, hg₀, rfl⟩ := Option.map_eq_some_iff.mp hg
    exact (hs g₀ hg₀).genStep
  | nop | seed | sxnext | rdstat | rsvd6 | rsvd7 => exact hs g hg

theorem legalResponse_ok (d : Word) : LegalResponse (rspWord false d) := fun herr => by simp at herr

theorem legalResponse_raise (c : Cause) : LegalResponse (rspWord true c.code) := fun _ => ⟨c, rspData_rspWord true c.code⟩

/-- A command leaves an answer or a fault's response on the port (R42, R86). -/
theorem exec_legalResponse {i : Instr} {s t : State} (h : exec i s = .next t) : ∀ r, t.rsp = some r → LegalResponse r := by
  intro r hr
  obtain ⟨c, -, he⟩ | ⟨-, seed, gen, d, he⟩ := exec_cases i s
  · cases he.symm.trans h
    cases hr
    exact legalResponse_raise c
  · cases he.symm.trans h
    cases hr
    exact legalResponse_ok d

theorem reset_inv : State.reset.Inv := fun _ => ⟨nofun, nofun⟩

/-- Settles O54: after reset no triple is held and no response presented (`reset_inv`). -/
theorem resetMeetsTheInvariant : Obligations.ResetMeetsTheInvariant := reset_inv

theorem resetBlock_inv (s : State) : s.resetBlock.Inv := fun _ => ⟨nofun, nofun⟩

/-- Before the first reset the invariant says nothing (R101, U13). -/
theorem unspecified_inv (s : State) : s.unspecified.Inv := nofun

theorem idleCycles_inv {s : State} (hs : s.Inv) : s.idleCycles.Inv := by
  cases hr : s.resetDone with
  | true =>
    rw [s.idleCycles_of_resetDone hr]
    exact fun _ => ⟨(hs hr).1, nofun⟩
  | false =>
    rw [s.idleCycles_of_not_resetDone hr]
    exact unspecified_inv s

/-- Every move of the host keeps the invariant. -/
theorem advance_inv {m : HostMove} {s t : State} (hs : s.Inv) (h : advance m s = .next t) : t.Inv := by
  obtain ⟨w, -, hr, he⟩ | ⟨-, rfl⟩ | ⟨-, rfl⟩ | ⟨-, rfl⟩ := advance_next m s t h
  · exact fun _ => ⟨(exec_registers he).2 ▸ genAfter_produced (hs hr).1, exec_legalResponse he⟩
  · exact idleCycles_inv hs
  · exact resetBlock_inv s
  · exact unspecified_inv s

/-- Settles O55: a step is the host's next move (`advance_inv`), and taking it off the list leaves the invariant. -/
theorem everyStepKeepsTheInvariant : Obligations.EveryStepKeepsTheInvariant := by
  unfold Obligations.EveryStepKeepsTheInvariant
  exact fun s _ hs h => advance_inv (s := s.takeMove) hs h

end Sys2Proof.Machine
end

section
/-!
What a step can be (70_reset_and_hazards.md): where it is refused, what each move leaves of the flags, and the steps at a reset
edge, at an idle port and at a presented word.
-/

namespace Sys2Proof.Machine

/-- A move is refused in one case alone: a command before the first reset after power-up (R101, U13). -/
theorem advance_eq_refused_iff (m : HostMove) (s : State) (r : Refusal) :
    advance m s = .refused r ↔ r = .notResetSincePowerUp ∧ s.resetDone = false ∧ ∃ w, m = .present w := by
  cases m with
  | idle | reset | resetInFlight | powerUp => exact ⟨nofun, fun ⟨_, _, _, hw⟩ => nomatch hw⟩
  | present w =>
    obtain ⟨hr, ha⟩ | ⟨hr, ha⟩ := accept_cases w s
    · simp [advance, ha, hr, exec_eq_blockStep]
    · simp [advance, ha, hr, eq_comm]

/-- Settles O52: there is no fault to end in, refusals are by `advance_eq_refused_iff`, and a loss of power leaves the
unspecified state. -/
theorem stepStopsOnlyBeforeTheFirstReset : Obligations.StepStopsOnlyBeforeTheFirstReset := by
  unfold Obligations.StepStopsOnlyBeforeTheFirstReset
  exact ⟨fun _ => nofun, fun s r => advance_eq_refused_iff s.nextMove s.takeMove r,
    fun s rest => ⟨_, step_cons s .powerUp rest, State.unspecified_resetDone _, State.unspecified_host _⟩⟩

/-- A command sets sticky flags and clears none (R19). -/
theorem exec_sticky_mono {i : Instr} {s t : State} (h : exec i s = .next t) (c : Cause) (hc : s.sticky c = true) :
    t.sticky c = true := by
  obtain ⟨u, he, hsticky⟩ := exec_sticky i s
  cases he.symm.trans h
  exact (hsticky c).mpr (.inl hc)

/-- A triple is there after a command exactly when it was there or an `INIT` had a seed to expand (R18). -/
theorem genAfter_isSome_iff (i : Instr) (s : State) :
    (genAfter i s).isSome = true ↔ s.genValid = true ∨ (i = .init ∧ s.seedValid = true) := by
  cases i with
  | init => simp [genAfter, State.genValid, State.seedValid, or_comm]
  | next => simp [genAfter, State.genValid]
  | nop | seed | sxnext | rdstat | rsvd6 | rsvd7 => simp [genAfter, State.genValid]

/-- No command takes the triple away (R77). -/
theorem exec_genValid_mono {i : Instr} {s t : State} (h : exec i s = .next t) (hs : s.genValid = true) :
    t.genValid = true := by
  rw [State.genValid, (exec_registers h).2]
  exact (genAfter_isSome_iff i s).mpr (.inl hs)

/-- A command leaves the mark of the first reset. -/
theorem exec_resetDone {i : Instr} {s t : State} (h : exec i s = .next t) : t.resetDone = s.resetDone := by
  obtain ⟨u, he, -, hr, -⟩ := exec_withHost i s
  cases he.symm.trans h
  exact hr

/-- Settles O50: of the moves that are no reset and no loss of power, a command by `exec_sticky_mono` and `exec_genValid_mono`,
an idle port by `State.idleCycles_of_resetDone`. -/
theorem onlyResetClearsStickyFlagsAndGenValid : Obligations.OnlyResetClearsStickyFlagsAndGenValid := by
  unfold Obligations.OnlyResetClearsStickyFlagsAndGenValid
  intro s t hr h
  have htakeMove : s.takeMove.resetDone = true := hr
  obtain ⟨w, -, -, he⟩ | ⟨-, rfl⟩ | ⟨hreset | hreset, -⟩ | ⟨hpower, -⟩ := advance_next s.nextMove s.takeMove t h
  · refine .inr (.inr (.inr ⟨fun c hc => exec_sticky_mono he c ?_, exec_genValid_mono (s := s.takeMove) he,
      (exec_resetDone he).trans hr⟩))
    rwa [State.takeMove_sticky]
  · refine .inr (.inr (.inr ⟨fun c hc => ?_, fun hg => ?_, ?_⟩))
    · rwa [State.idleCycles_sticky _ htakeMove, State.takeMove_sticky]
    · rw [State.idleCycles_of_resetDone _ htakeMove]
      exact hg
    · rw [State.idleCycles_of_resetDone _ htakeMove]
      exact hr
  · exact .inl hreset
  · exact .inr (.inl hreset)
  · exact .inr (.inr (.inl hpower))

/-- Settles O47: the step at the edge is `step_reset`, and the reset block takes the next command
(`step_resetBlock_of_present`). -/
theorem resetEdgeGivesTheResetState : Obligations.ResetEdgeGivesTheResetState := by
  unfold Obligations.ResetEdgeGivesTheResetState
  intro s p rest
  exact ⟨_, step_reset s p rest, State.resetBlock_sameBlock _, State.resetBlock_rsp _, State.resetBlock_resetDone _,
    State.resetBlock_host _, fun _ _ hrest => step_resetBlock_of_present hrest⟩

/-- Settles O51: an idle move by `step_idle`; an exhausted list by `step_nil`, which leaves the list as it was. -/
theorem idleBlockKeepsItsState : Obligations.IdleBlockKeepsItsState := by
  unfold Obligations.IdleBlockKeepsItsState
  refine ⟨fun s rest hr => step_idle hr rest, fun s hr hh => ?_⟩
  have htakeMove : s.takeMove = s := by rw [State.takeMove, hh, List.tail_nil, ← hh]
  rw [step_nil s hh, htakeMove, s.idleCycles_of_resetDone hr]

/-- A word placed at the head of the host's list is the next command executed (R50, log entry 2). -/
theorem step_withFetchWord {s : State} (hr : s.resetDone = true) (nbits n : Nat) :
    step (s.withFetchWord nbits n) = exec (decode (BitVec.ofNat 67 n)) s := by
  rw [← step_present (s := s) hr, State.withFetchWord, ← hr]

/-- Settles O57: the word placed is executed by `step_withFetchWord`, and it decodes to the command the number is read as. -/
theorem withFetchWordRunsTheInstruction : Obligations.WithFetchWordRunsTheInstruction := by
  unfold Obligations.WithFetchWordRunsTheInstruction
  have hrun (s : State) (nbits w : Nat) (i : Instr) (hr : s.resetDone = true) (hi : decodeTableWord nbits w = some i) :
      step (s.withFetchWord nbits w) = exec i s := by
    rw [step_withFetchWord hr, decode_of_decodeTableWord hi]
  exact ⟨hrun, fun nbits w i => hrun State.reset nbits w i rfl⟩

/-- Settles O53: by `run_commands`, at the moves that follow. -/
theorem hostGapsDoNotMatter : Obligations.HostGapsDoNotMatter := by
  unfold Obligations.HostGapsDoNotMatter
  intro s ms rest hr hms
  obtain ⟨t, htr, hblock, ht⟩ := run_commands s ms hr hms
  obtain ⟨hrun, hobserved⟩ := ht rest
  exact ⟨⟨_, hrun, hblock, rfl, htr⟩, hobserved⟩

end Sys2Proof.Machine
end

section
/-!
What a command may read and write (R17, R25, R31, R46, R105): its frame, its answer as a function of what it reads, and the
phases that the two validity flags make.
-/

namespace Sys2Proof.Machine

/-- Settles O26: `exec_eq_blockStep` and `blockStep_rsp`. -/
theorem everyCommandIsAnswered : Obligations.EveryCommandIsAnswered := by
  unfold Obligations.EveryCommandIsAnswered
  exact fun w s => ⟨exec_eq_blockStep s w, blockStep_rsp s w⟩

/-- The reserved opcodes alone raise `IllegalCommand` (R46, R86). -/
theorem faultOf_eq_illegalCommand_iff (i : Instr) (s : State) :
    faultOf i s = some .illegalCommand ↔ i = .rsvd6 ∨ i = .rsvd7 := by
  cases i with
  | nop | seed | rdstat | rsvd6 | rsvd7 => simp [faultOf]
  | sxnext | init | next => simp [faultOf]

/-- A word without a reserved opcode raises no `IllegalCommand` (R46). -/
theorem faultOf_decode_ne_illegalCommand {w : CmdWord} (h6 : cmdOp w ≠ 0b110#3) (h7 : cmdOp w ≠ 0b111#3) (s : State) :
    faultOf (decode w) s ≠ some .illegalCommand := by
  rw [Ne, faultOf_eq_illegalCommand_iff, decode_eq_iff, decode_eq_iff]
  rintro (⟨hop, -⟩ | ⟨hop, -⟩)
  · exact h6 hop
  · exact h7 hop

/-- A command that does not raise `IllegalCommand` leaves `F_ILL` and answers something else (R46). -/
theorem exec_of_faultOf_ne_illegalCommand {i : Instr} {s : State} (h : faultOf i s ≠ some .illegalCommand) :
    ∃ t r, exec i s = .next t ∧ t.rsp = some r ∧ r ≠ rspWord true Cause.illegalCommand.code ∧ t.fIll = s.fIll := by
  cases hf : faultOf i s with
  | none =>
    obtain ⟨t, r, he, hr, herr, hsticky⟩ := exec_of_faultOf_eq_none hf
    refine ⟨t, r, he, hr, ?_, hsticky .illegalCommand⟩
    rintro rfl
    simp at herr
  | some c =>
    refine ⟨_, _, exec_of_faultOf hf, s.raise_rsp c, ?_⟩
    cases c with
    | illegalCommand => exact absurd hf h
    | seedNotLoaded | generatorNotSeeded => exact ⟨by decide, rfl⟩

/-- Settles O7: the reserved opcodes by fault entry (`exec_rsvd6`, `exec_rsvd7`), the others by
`exec_of_faultOf_ne_illegalCommand`. -/
theorem onlyReservedOpcodesAreIllegal : Obligations.OnlyReservedOpcodesAreIllegal := by
  unfold Obligations.OnlyReservedOpcodesAreIllegal
  refine fun w s => ⟨?_, fun h6 h7 => exec_of_faultOf_ne_illegalCommand (faultOf_decode_ne_illegalCommand h6 h7 s)⟩
  rintro (hop | hop)
  · rw [(decode_eq_iff w .rsvd6).mpr ⟨hop, nofun⟩]
    exact exec_rsvd6 s
  · rw [(decode_eq_iff w .rsvd7).mpr ⟨hop, nofun⟩]
    exact exec_rsvd7 s

/-- Settles O27: each command by the law of its one path, or of its two paths, told apart by the validity flag. -/
theorem commandsWriteOnlyWhatTheTableSays : Obligations.CommandsWriteOnlyWhatTheTableSays := by
  unfold Obligations.CommandsWriteOnlyWhatTheTableSays
  intro i s
  cases i with
  | nop => exact ⟨_, exec_nop s, rfl⟩
  | rdstat => exact ⟨_, exec_rdstat s, rfl⟩
  | rsvd6 => exact ⟨_, exec_rsvd6 s, rfl⟩
  | rsvd7 => exact ⟨_, exec_rsvd7 s, rfl⟩
  | seed d => exact ⟨_, exec_seed d s, rfl, rfl⟩
  | sxnext =>
    obtain hs | ⟨x, hs⟩ := Option.eq_none_or_eq_some s.seedState
    · exact ⟨_, exec_sxnext_of_noSeed hs, (if_neg (by simp [State.seedValid, hs])).mpr rfl⟩
    · exact ⟨_, exec_sxnext_of_seed hs, (if_pos (by simp [State.seedValid, hs])).mpr ⟨rfl, rfl⟩⟩
  | init =>
    obtain hs | ⟨x, hs⟩ := Option.eq_none_or_eq_some s.seedState
    · exact ⟨_, exec_init_of_noSeed hs, (if_neg (by simp [State.seedValid, hs])).mpr rfl⟩
    · exact ⟨_, exec_init_of_seed hs, (if_pos (by simp [State.seedValid, hs])).mpr ⟨rfl, rfl, rfl⟩⟩
  | next =>
    obtain hs | ⟨g, hs⟩ := Option.eq_none_or_eq_some s.gen
    · exact ⟨_, exec_next_of_noGen hs, (if_neg (by simp [State.genValid, hs])).mpr rfl⟩
    · exact ⟨_, exec_next_of_gen hs, (if_pos (by simp [State.genValid, hs])).mpr ⟨rfl, rfl⟩⟩

/-- The response of a command: the fault it meets, or its result (R42). -/
def responseOf (i : Instr) (s : State) : RspWord :=
  match faultOf i s with
  | some c => rspWord true c.code
  | none => rspWord false ((resultOf i s).getD 0)

theorem exec_rsp {i : Instr} {s t : State} (h : exec i s = .next t) : t.rsp = some (responseOf i s) := by
  obtain ⟨c, u, hc, he, hr⟩ | ⟨d, u, hn, hd, he, hr⟩ := exec_response i s
  · cases he.symm.trans h
    rw [hr, responseOf, hc]
  · cases he.symm.trans h
    rw [hr, responseOf, hn, hd, Option.getD_some]

/-- After a command that met a fault its sticky flag is set (R19). -/
theorem exec_sticky_of_faultOf {i : Instr} {s t : State} {c : Cause} (h : exec i s = .next t)
    (hc : faultOf i s = some c) : t.sticky c = true := by
  cases (exec_of_faultOf hc).symm.trans h
  simp

/-- STATUS is made of the five flags (R20). -/
theorem State.status_congr {s s' : State} (hseed : s.seedValid = s'.seedValid) (hgen : s.genValid = s'.genValid)
    (hsticky : ∀ c, s.sticky c = s'.sticky c) : s.status = s'.status := by
  have hill : s.fIll = s'.fIll := hsticky .illegalCommand
  have hnoSeed : s.fNoSeed = s'.fNoSeed := hsticky .seedNotLoaded
  have hnoGen : s.fNoGen = s'.fNoGen := hsticky .generatorNotSeeded
  rw [State.status, State.status, hseed, hgen, hill, hnoSeed, hnoGen]

/-- Two states in which a command meets the same fault, if any, and has the same result: it gives the same response, and sets
the sticky flag of the fault in both. -/
theorem exec_agree {i : Instr} {s s' : State} (hfault : faultOf i s = faultOf i s') (hresult : resultOf i s = resultOf i s') :
    ∃ t t', exec i s = .next t ∧ exec i s' = .next t' ∧ t.rsp = t'.rsp ∧
      ∀ c, faultOf i s = some c → t.sticky c = t'.sticky c := by
  obtain ⟨t, -, he, -⟩ := exec_responds i s
  obtain ⟨t', -, he', -⟩ := exec_responds i s'
  refine ⟨t, t', he, he', ?_, fun c hc => ?_⟩
  · rw [exec_rsp he, exec_rsp he', responseOf, responseOf, hfault, hresult]
  · rw [exec_sticky_of_faultOf he hc, exec_sticky_of_faultOf he' (hfault ▸ hc)]

/-- Settles O28: fault and result are computed from what the table lets the command read, so the response and the sticky flag
are by `exec_agree`; so are the registers it writes, by `exec_registers`. -/
theorem commandsReadOnlyWhatTheTableSays : Obligations.CommandsReadOnlyWhatTheTableSays := by
  unfold Obligations.CommandsReadOnlyWhatTheTableSays
  intro i s s' hreads
  have hsame : faultOf i s = faultOf i s' ∧ resultOf i s = resultOf i s' := by
    cases i with
    | nop | seed | rsvd6 | rsvd7 => exact ⟨rfl, rfl⟩
    | sxnext | init =>
      have hvalid : s.seedValid = s'.seedValid := congrArg Option.isSome hreads
      exact ⟨by simp only [faultOf, hvalid], congrArg (Option.map _) hreads⟩
    | next =>
      have hvalid : s.genValid = s'.genValid := congrArg Option.isSome hreads
      exact ⟨by simp only [faultOf, hvalid], congrArg (Option.map _) hreads⟩
    | rdstat =>
      obtain ⟨hseed, hgen, hsticky⟩ := hreads
      exact ⟨rfl, congrArg some (State.status_congr hseed hgen hsticky)⟩
  obtain ⟨t, t', he, he', hrsp, hsticky⟩ := exec_agree hsame.1 hsame.2
  obtain ⟨hseed, hgen⟩ := exec_registers he
  obtain ⟨hseed', hgen'⟩ := exec_registers he'
  refine ⟨t, t', he, he', hrsp, hsame.1, hsticky, ?_⟩
  cases i with
  | nop | rdstat | rsvd6 | rsvd7 => trivial
  | seed => exact hseed.trans hseed'.symm
  | sxnext => exact hseed.trans ((congrArg (Option.map _) hreads).trans hseed'.symm)
  | next => exact hgen.trans ((congrArg (Option.map _) hreads).trans hgen'.symm)
  | init =>
    refine ⟨hseed.trans hseed'.symm, fun hvalid => ?_⟩
    obtain ⟨x, hx⟩ := Option.isSome_iff_exists.mp hvalid
    have hx' : s'.seedState = some x := hreads ▸ hx
    simp only [hgen, hgen', genAfter, hx, hx', Option.map_some, Option.some_or]

/-- Settles O35: the answer of a command other than `SXNEXT` and `NEXT` is computed from the flags (`exec_agree`), and the
triple stays by `genAfter_eq_gen`. -/
theorem dataRegistersAreNotReadBack : Obligations.DataRegistersAreNotReadBack := by
  unfold Obligations.DataRegistersAreNotReadBack
  refine ⟨fun i s s' hsxnext hnext hseed hgen hsticky => ?_, fun i s hinit hnext => ?_⟩
  · have hsame : faultOf i s = faultOf i s' ∧ resultOf i s = resultOf i s' := by
      cases i with
      | nop | seed | rsvd6 | rsvd7 => exact ⟨rfl, rfl⟩
      | rdstat => exact ⟨rfl, congrArg some (State.status_congr hseed hgen hsticky)⟩
      | sxnext => exact absurd rfl hsxnext
      | next => exact absurd rfl hnext
      | init =>
        have hresult (u : State) : resultOf .init u = if u.seedValid then some 0 else none := by
          cases hu : u.seedState <;> simp [resultOf, State.seedValid, hu]
        exact ⟨by simp only [faultOf, hseed], by simp only [hresult, hseed]⟩
    obtain ⟨t, t', he, he', hrsp, -⟩ := exec_agree hsame.1 hsame.2
    exact ⟨t, t', he, he', hrsp⟩
  · obtain ⟨t, -, he, -⟩ := exec_responds i s
    exact ⟨t, he, (exec_registers he).2.trans (genAfter_eq_gen hinit hnext s)⟩

/-- Settles O29: `NOP` and `RDSTAT` write the response alone, `SEED` loads what is loaded; the constants that `SXNEXT` and
`NEXT` add are not 0. -/
theorem idempotentAndNotIdempotentCommands : Obligations.IdempotentAndNotIdempotentCommands := by
  unfold Obligations.IdempotentAndNotIdempotentCommands
  refine ⟨?_, fun d s => ⟨_, exec_seed d s, rfl⟩, fun s x hx => ?_, fun s g hg => ?_⟩
  · rintro i s (rfl | rfl)
    · exact ⟨_, exec_nop s, .refl s, rfl⟩
    · exact ⟨_, exec_rdstat s, .refl s, rfl⟩
  · refine ⟨_, exec_sxnext_of_seed hx, fun hsame => ?_⟩
    have hfixed : x + parameters.sxGamma = x := Option.some.inj (hsame.trans hx)
    exact absurd (add_eq_left.mp hfixed) (by decide)
  · refine ⟨_, exec_next_of_gen hg, fun hsame => ?_⟩
    have hgen : (genStep parameters g).2 = g := Option.some.inj (hsame.trans hg)
    have hfixed : g.fastCounter + parameters.fcInc = g.fastCounter :=
      (genStep_fastCounter parameters ..).symm.trans (congrArg GeneratorState.fastCounter hgen)
    exact absurd (add_eq_left.mp hfixed) (by decide)

/-- The bits of STATUS below the sticky flags are the validity flags, and those above them are 0 (R20). -/
theorem State.status_bit (s : State) :
    s.status.getLsbD 0 = s.seedValid ∧ s.status.getLsbD 1 = s.genValid ∧ ∀ k, 5 ≤ k → s.status.getLsbD k = false := by
  refine ⟨?_, ?_, fun k hk => ?_⟩
  · simp only [State.status, BitVec.getLsbD_setWidth, BitVec.getLsbD_append]
    simp
  · simp only [State.status, BitVec.getLsbD_setWidth, BitVec.getLsbD_append]
    simp
  · rw [State.status, BitVec.getLsbD_setWidth, BitVec.getLsbD_of_ge _ k hk, Bool.and_false]

/-- Settles O30: the validity flags and the zeros by `State.status_bit`, the sticky flags by `State.status_statusBit`. -/
theorem statusBits : Obligations.StatusBits := by
  unfold Obligations.StatusBits
  refine ⟨fun s => ?_, State.reset_status⟩
  obtain ⟨hseed, hgen, hzero⟩ := s.status_bit
  exact ⟨hseed, hgen, s.status_statusBit .illegalCommand, s.status_statusBit .seedNotLoaded,
    s.status_statusBit .generatorNotSeeded, fun k hk _ => hzero k hk⟩

/-- The response to `NEXT` is the output of the triple, and a command list after it starts from the state it leaves (R74). -/
theorem responses_next_of_gen {s : State} {g : GeneratorState} (hg : s.gen = some g) (ws : List CmdWord) :
    responses s (encode .next :: ws) = rspWord false (genStep parameters g).1 ::
      responses ((s.setGen (genStep parameters g).2).respondOk (genStep parameters g).1) ws := by
  rw [responses_cons, blockStep_encode (exec_next_of_gen hg) (State.respondOk_rsp _ _)]

/-- Settles O43: the triple that `INIT` leaves is `initTriple_eq`'s, and `NEXT` adds its second and third words. -/
theorem firstDrawIsTheSumOfTheInitialWords : Obligations.FirstDrawIsTheSumOfTheInitialWords := by
  unfold Obligations.FirstDrawIsTheSumOfTheInitialWords
  intro s x hx
  rw [responses_cons, blockStep_encode (exec_init_of_seed hx) (State.respondOk_rsp _ 0),
    responses_next_of_gen (g := initTriple parameters x) rfl, responses_nil, initTriple_eq]
  rfl

/-- The phase is read off the two validity flags (R105). -/
theorem State.phase_congr {s t : State} (hseed : t.seedValid = s.seedValid) (hgen : t.genValid = s.genValid) :
    t.phase = s.phase := by
  rw [State.phase, State.phase, hseed, hgen]

/-- `SEED` and a successful `INIT` move between the phases; every other command leaves the validity flags (R105). -/
theorem exec_phase (i : Instr) (s : State) : ∃ t, exec i s = .next t ∧
    t.phase = (match i, s.phase with
      | .seed _, .unseeded => .seedLoaded
      | .seed _, .generating => .generatingNewSeed
      | .init, .seedLoaded => .generating
      | .init, .generatingNewSeed => .generating
      | _, p => p) := by
  cases i with
  | seed | init =>
    obtain ⟨seed, gen⟩ := s
    cases seed <;> cases gen <;> exact ⟨_, rfl, rfl⟩
  | nop | sxnext | next | rdstat | rsvd6 | rsvd7 =>
    obtain ⟨t, -, he, -⟩ := exec_responds _ s
    obtain ⟨hseed, hgen⟩ := exec_registers he
    exact ⟨t, he, State.phase_congr (by simp [State.seedValid, hseed, seedAfter])
      (by simp [State.genValid, hgen, genAfter])⟩

/-- Settles O37: each command in each phase, then the step of a reset and the run of the minimum sequence. -/
theorem startUpPhases : Obligations.StartUpPhases := by
  unfold Obligations.StartUpPhases
  refine ⟨exec_phase, fun i s => ?_, fun s p rest => ⟨_, step_reset s p rest, rfl⟩, fun d => ?_⟩
  · obtain ⟨seed, gen⟩ := s
    cases i with
    | nop | seed | rdstat => exact ⟨_, _, rfl, rfl, rspErr_rspWord false _⟩
    | rsvd6 | rsvd7 => exact ⟨_, _, rfl, rfl, rfl⟩
    | sxnext | init =>
      cases seed with
      | none => cases gen <;> exact ⟨_, _, rfl, rfl, rfl⟩
      | some x => cases gen <;> exact ⟨_, _, rfl, rfl, rspErr_rspWord false _⟩
    | next =>
      cases gen with
      | none => cases seed <;> exact ⟨_, _, rfl, rfl, rfl⟩
      | some g => cases seed <;> exact ⟨_, _, rfl, rfl, rspErr_rspWord false _⟩
  · rw [responses_seed_init, after_seed_init, responses_next_of_gen (g := initTriple parameters d) rfl, responses_nil]
    exact ⟨_, _, _, rfl, rspErr_rspWord false 0, rspErr_rspWord false 0, rspErr_rspWord false _⟩

end Sys2Proof.Machine
end

section
/-!
The maps of the datapath as bijections of the words (R64): each is injective, a linear one because it is 0 at 0 alone, and an
injective map of finitely many words reaches them all.
-/

namespace Sys2Proof.Machine

/-- There are finitely many words. -/
theorem bijective_of_injective {f : Word → Word} (hf : Function.Injective f) : Function.Bijective f :=
  have : Finite Word := .of_injective BitVec.toFin fun _ _ => BitVec.eq_of_toFin_eq
  Finite.injective_iff_bijective.mp hf

/-- XOR-shift is linear over exclusive or. -/
theorem xsr_xor (x y : Word) (k : Nat) : xsr (x ^^^ y) k = xsr x k ^^^ xsr y k := by
  simp only [xsr, xor64, shr64, BitVec.ushiftRight_xor_distrib]
  ac_rfl

/-- XOR-shift is linear and 0 at 0 alone, so it tells words apart (R64). -/
theorem xsr_injective {k : Nat} (hk : 1 ≤ k) : Function.Injective fun z => xsr z k := by
  intro x y hxy
  have hzero : xsr (x ^^^ y) k = 0 := (xsr_xor x y k).trans (BitVec.xor_eq_zero_iff.mpr hxy)
  exact BitVec.xor_eq_zero_iff.mp ((xsr_eq_zero_iff hk _).mp hzero)

/-- XOR-shift keeps the top `k` bits: nothing is shifted onto them (R64). -/
theorem xsr_bit_top (z : Word) {k i : Nat} (hi : 64 - k ≤ i) : (xsr z k).getLsbD i = z.getLsbD i := by
  rw [xsr, xor64_bit, shr64_bit, BitVec.getLsbD_of_ge z (i + k) (by omega), Bool.xor_false]

/-- An odd factor is a unit, so it cancels (R64). -/
theorem mul64_odd_injective {m : Word} (hm : m.getLsbD 0 = true) : Function.Injective fun z => mul64 z m :=
  (isUnit_of_odd hm).mul_left_injective

/-- The avalanche function of a well-formed configuration tells words apart, as each of its stages does (R64). -/
theorem mix64_injective {p : Config} (hp : p.wf = true) : Function.Injective (mix64 p) := by
  simp only [Config.wf, Bool.and_eq_true, decide_eq_true_eq] at hp
  obtain ⟨⟨⟨⟨⟨⟨⟨⟨-, hmul1⟩, hmul2⟩, -⟩, -⟩, -⟩, hshift1, -⟩, hshift2, -⟩, hshift3, -⟩ := hp
  exact (xsr_injective hshift3).comp <| (mul64_odd_injective hmul2).comp <| (xsr_injective hshift2).comp <|
    (mul64_odd_injective hmul1).comp (xsr_injective hshift1)

/-- Rotating on to a whole turn undoes a rotation (R64). -/
theorem rotl64_injective (k : Nat) : Function.Injective fun z => rotl64 z k :=
  Function.LeftInverse.injective (g := fun z => rotl64 z (64 - k % 64)) fun z =>
    rotl64_rotl64_of_dvd z (by omega)

/-- Settles O15: each map is injective, hence bijective (`bijective_of_injective`), and `mix64` is 0 at 0 alone by
`mix64_eq_zero_iff`. -/
theorem datapathMapsAreBijections : Obligations.DatapathMapsAreBijections := by
  unfold Obligations.DatapathMapsAreBijections
  refine ⟨fun k hk _ => ⟨bijective_of_injective (xsr_injective hk), (xsr_eq_zero_iff hk 0).mpr rfl,
      fun z i hi _ => xsr_bit_top z hi⟩,
    fun m hm => ⟨bijective_of_injective (mul64_odd_injective hm), mul64_zero_left m⟩,
    fun p hp => ⟨bijective_of_injective (mix64_injective hp), mix64_eq_zero_iff hp⟩, by decide,
    fun k => bijective_of_injective (rotl64_injective k), fun c => ⟨?_, ?_⟩⟩
  · exact bijective_of_injective (add_left_injective c)
  · exact bijective_of_injective fun _ _ => (BitVec.xor_left_inj c).mp

/-- Settles O14: the stages as `xsr` and `mix64` compute them, the worked values by evaluation. -/
theorem avalancheStagesAndWorkedValues : Obligations.AvalancheStagesAndWorkedValues := by
  unfold Obligations.AvalancheStagesAndWorkedValues
  refine ⟨fun _ _ => rfl, by decide, by decide, by decide, ?_, by decide⟩
  rintro z _ _ _ _ rfl rfl rfl rfl
  rfl

end Sys2Proof.Machine
end

section
/-!
The flags as a record of the run (R18, R19, R77): what a command's response says of the fault it met, and the flags after any
commands as a statement about the trace, from every state and so from reset.
-/

namespace Sys2Proof.Machine

/-- The data registers after one command of the fold. -/
theorem blockStep_registers (s : State) (w : CmdWord) :
    (blockStep s w).1.seedState = seedAfter (decode w) s ∧ (blockStep s w).1.gen = genAfter (decode w) s :=
  exec_registers (exec_eq_blockStep s w)

/-- The response to one command of the fold. -/
theorem blockStep_response (s : State) (w : CmdWord) : (blockStep s w).2 = responseOf (decode w) s :=
  Option.some.inj ((blockStep_rsp s w).symm.trans (exec_rsp (exec_eq_blockStep s w)))

theorem rspErr_responseOf (i : Instr) (s : State) : rspErr (responseOf i s) = (faultOf i s).isSome := by
  cases hf : faultOf i s <;> simp [responseOf, hf]

/-- `INIT` answers `err` = 0 exactly with a seed loaded (R73, R87). -/
theorem rspErr_responseOf_init (s : State) : rspErr (responseOf .init s) = !s.seedValid := by
  rw [rspErr_responseOf]
  cases hv : s.seedValid <;> simp [faultOf, hv]

/-- `NEXT` answers `err` = 0 exactly with a triple (R74, R87). -/
theorem rspErr_responseOf_next (s : State) : rspErr (responseOf .next s) = !s.genValid := by
  rw [rspErr_responseOf]
  cases hv : s.genValid <;> simp [faultOf, hv]

theorem Cause.code_injective : Function.Injective Cause.code := by
  intro c d
  cases c <;> cases d <;> decide

/-- The response names the fault that the command met, and no other (R42, R86). -/
theorem faultOf_eq_some_iff (i : Instr) (s : State) (c : Cause) :
    faultOf i s = some c ↔ rspErr (responseOf i s) = true ∧ rspData (responseOf i s) = c.code := by
  cases hf : faultOf i s with
  | none => simp [responseOf, hf]
  | some d => simp [responseOf, hf, Cause.code_injective.eq_iff]

/-- A flag that only events set, and nothing clears, is set after a run if it was set or one of the responses is such an
event. -/
theorem after_iff_exists_event {flag : State → Prop} {event : Instr × RspWord → Prop}
    (hstep : ∀ s w, flag (blockStep s w).1 ↔ flag s ∨ event (decode w, (blockStep s w).2)) (s : State) (ws : List CmdWord) :
    flag (after s ws) ↔ flag s ∨ ∃ p ∈ trace s ws, event p := by
  induction ws generalizing s with
  | nil => simp
  | cons w ws ih => rw [after_cons, ih, hstep, trace_cons, List.exists_mem_cons_iff, or_assoc]

/-- `GEN_VALID` after a run (R18). -/
theorem after_genValid_iff (s : State) (ws : List CmdWord) :
    (after s ws).genValid = true ↔ s.genValid = true ∨ ∃ p ∈ trace s ws, p.1 = .init ∧ rspErr p.2 = false := by
  refine after_iff_exists_event (flag := fun s => s.genValid = true) (fun s w => ?_) s ws
  rw [State.genValid, (blockStep_registers s w).2, genAfter_isSome_iff, blockStep_response]
  refine or_congr_right (and_congr_right fun hinit => ?_)
  rw [hinit, rspErr_responseOf_init, Bool.not_eq_false']

/-- A sticky flag after a run (R19). -/
theorem after_sticky_iff (s : State) (ws : List CmdWord) (c : Cause) :
    (after s ws).sticky c = true ↔
      s.sticky c = true ∨ ∃ p ∈ trace s ws, rspErr p.2 = true ∧ rspData p.2 = c.code := by
  refine after_iff_exists_event (flag := fun s => s.sticky c = true) (fun s w => ?_) s ws
  obtain ⟨t, he, hsticky⟩ := exec_sticky (decode w) s
  cases he.symm.trans (exec_eq_blockStep s w)
  rw [hsticky, faultOf_eq_some_iff, blockStep_response]

/-- An answered command that leaves a loaded seed in place as such: it loads no other, and is no successful `INIT` (R18). -/
def KeepsSeed (p : Instr × RspWord) : Prop := (∀ d, p.1 ≠ .seed d) ∧ (p.1 = .init → rspErr p.2 = true)

/-- A `SEED` of the trace is followed by nothing but commands that keep the seed. -/
def LastSeedKept (tr : List (Instr × RspWord)) : Prop :=
  ∃ before d r later, tr = before ++ (Instr.seed d, r) :: later ∧ ∀ p ∈ later, KeepsSeed p

theorem not_lastSeedKept_nil : ¬LastSeedKept [] := by
  rintro ⟨before, d, r, later, h, -⟩
  simp at h

theorem lastSeedKept_cons (p : Instr × RspWord) (tr : List (Instr × RspWord)) :
    LastSeedKept (p :: tr) ↔ LastSeedKept tr ∨ ((∃ d, p.1 = .seed d) ∧ ∀ q ∈ tr, KeepsSeed q) := by
  constructor
  · rintro ⟨before, d, r, later, h, hkept⟩
    obtain ⟨-, h⟩ | ⟨before', -, htr⟩ := List.cons_eq_append_iff.mp h
    · cases h
      exact .inr ⟨⟨d, rfl⟩, hkept⟩
    · exact .inl ⟨before', d, r, later, htr, hkept⟩
  · rintro (⟨before, d, r, later, rfl, hkept⟩ | ⟨⟨d, hd⟩, hkept⟩)
    · exact ⟨p :: before, d, r, later, rfl, hkept⟩
    · exact ⟨[], d, p.2, tr, by rw [← hd]; rfl, hkept⟩

/-- A seed is loaded after a command if the command loads one, or one was loaded and the command keeps it (R18). -/
theorem seedAfter_isSome_iff (i : Instr) (s : State) :
    (seedAfter i s).isSome = true ↔ (∃ d, i = .seed d) ∨ (s.seedValid = true ∧ KeepsSeed (i, responseOf i s)) := by
  cases i with
  | seed d => simp [seedAfter]
  | init => simp [seedAfter, KeepsSeed, rspErr_responseOf_init]
  | nop | sxnext | next | rdstat | rsvd6 | rsvd7 => simp [seedAfter, KeepsSeed, State.seedValid]

/-- `SEED_VALID` after a run (R18). -/
theorem after_seedValid_iff (s : State) (ws : List CmdWord) :
    (after s ws).seedValid = true ↔
      LastSeedKept (trace s ws) ∨ (s.seedValid = true ∧ ∀ p ∈ trace s ws, KeepsSeed p) := by
  induction ws generalizing s with
  | nil => simp [not_lastSeedKept_nil]
  | cons w ws ih =>
    have hstep : (blockStep s w).1.seedValid = true ↔
        (∃ d, decode w = .seed d) ∨ (s.seedValid = true ∧ KeepsSeed (decode w, (blockStep s w).2)) := by
      rw [State.seedValid, (blockStep_registers s w).1, seedAfter_isSome_iff, blockStep_response]
    rw [after_cons, ih, hstep, trace_cons, lastSeedKept_cons, List.forall_mem_cons]
    tauto

/-- Settles O36: the flags after a run by `after_seedValid_iff`, `after_genValid_iff` and `after_sticky_iff`, from the reset
state, in which none is set. -/
theorem flagsRecordTheHistory : Obligations.FlagsRecordTheHistory := by
  unfold Obligations.FlagsRecordTheHistory
  refine fun ws => ⟨?_, ?_, fun c => ?_⟩
  · rw [after_seedValid_iff, or_iff_left (by simp [State.reset, State.seedValid])]
    simp only [LastSeedKept, KeepsSeed, forall₂_and]
  · rw [after_genValid_iff, or_iff_right (by simp [State.reset, State.genValid])]
  · rw [after_sticky_iff, or_iff_right (by cases c <;> simp [State.reset, State.sticky])]

/-- Settles O40: no command takes the triple away, and with a triple `NEXT` meets no fault. -/
theorem theStreamNeverEnds : Obligations.TheStreamNeverEnds := by
  unfold Obligations.TheStreamNeverEnds
  intro s ws hs
  refine ⟨(after_genValid_iff s ws).mpr (.inl hs), ?_⟩
  induction ws generalizing s with
  | nil => simp
  | cons w ws ih =>
    rw [trace_cons, List.forall_mem_cons]
    refine ⟨fun hnext => ?_, ih _ (exec_genValid_mono (exec_eq_blockStep s w) hs)⟩
    rw [blockStep_response, show decode w = .next from hnext, rspErr_responseOf_next, hs, Bool.not_true]

end Sys2Proof.Machine
end

section
/-!
The streams (R27 (c), R70, R76, R78): a command that advances a register and answers from it, repeated; then the expander's
sequence after a `SEED`, the draws after an `INIT`, and the draws of any run in which no `INIT` succeeds.
-/

namespace Sys2Proof.Machine

/-- Commands run one after the other. -/
theorem after_append (s : State) (ws vs : List CmdWord) : after s (ws ++ vs) = after (after s ws) vs := by
  induction ws generalizing s with
  | nil => rfl
  | cons w ws ih => exact ih _

/-- A command that answers `out` of a register and advances it by `f`, `n` times: the answers are those of the register's
successive values. -/
theorem responses_replicate_of_blockStep {α : Type} {read : State → Option α} {w : CmdWord} {f : α → α} {out : α → Word}
    (hstep : ∀ s x, read s = some x → read (blockStep s w).1 = some (f x) ∧ (blockStep s w).2 = rspWord false (out x))
    (n : Nat) {s : State} {x : α} (hx : read s = some x) :
    responses s (List.replicate n w) = (List.range n).map fun j => rspWord false (out (f^[j] x)) := by
  induction n generalizing s x with
  | zero => rfl
  | succ n ih =>
    obtain ⟨hread, hrsp⟩ := hstep s x hx
    rw [List.replicate_succ, responses_cons, hrsp, ih hread, List.range_succ_eq_map, List.map_cons, List.map_map]
    rfl

/-- Multiples of a constant add up. -/
theorem add_ofNat_mul_add_ofNat_mul (x c : Word) (j k : Nat) :
    x + BitVec.ofNat 64 j * c + BitVec.ofNat 64 k * c = x + BitVec.ofNat 64 (j + k) * c := by
  rw [BitVec.ofNat_add, add_mul, add_assoc]

theorem add_ofNat_mul_add (x c : Word) (j : Nat) : x + BitVec.ofNat 64 j * c + c = x + BitVec.ofNat 64 (j + 1) * c := by
  rw [← add_ofNat_mul_add_ofNat_mul, BitVec.one_mul]

/-- `SXNEXT` answers the mixed new value (R69). -/
theorem blockStep_sxnext (s : State) (x : Word) (hx : s.seedState = some x) :
    (blockStep s (encode .sxnext)).1.seedState = some (x + parameters.sxGamma) ∧
      (blockStep s (encode .sxnext)).2 = rspWord false (mix64 parameters (x + parameters.sxGamma)) := by
  refine ⟨blockStep_sxnext_seedState s x hx, ?_⟩
  rw [blockStep_encode (exec_sxnext_of_seed hx) (State.respondOk_rsp _ _)]
  rfl

/-- `k` `SXNEXT`s with seed `x` answer the first `k` outputs of the sequence and leave the seed advanced `k` times (R70). -/
theorem run_replicate_sxnext {s : State} {x : Word} (hx : s.seedState = some x) (k : Nat) :
    (responses s (List.replicate k (encode .sxnext)) = (List.range k).map fun j =>
      rspWord false (mix64 parameters (x + BitVec.ofNat 64 (j + 1) * parameters.sxGamma))) ∧
    (after s (List.replicate k (encode .sxnext))).seedState = some (x + BitVec.ofNat 64 k * parameters.sxGamma) := by
  constructor
  · rw [responses_replicate_of_blockStep blockStep_sxnext k hx]
    refine List.map_congr_left fun j _ => ?_
    rw [iterate_add_const, add_ofNat_mul_add]
  · rw [after_replicate_of_blockStep blockStep_sxnext_seedState k hx, iterate_add_const]

/-- The triple that `INIT` leaves from an advanced seed continues the sequence (R70, R75). -/
theorem initTriple_add_ofNat_mul (d : Word) (k : Nat) :
    initTriple parameters (d + BitVec.ofNat 64 k * parameters.sxGamma) =
      ⟨mix64 parameters (d + BitVec.ofNat 64 (k + 1) * parameters.sxGamma),
        mix64 parameters (d + BitVec.ofNat 64 (k + 2) * parameters.sxGamma),
        mix64 parameters (d + BitVec.ofNat 64 (k + 3) * parameters.sxGamma)⟩ := by
  rw [initTriple_eq, add_ofNat_mul_add, ← add_ofNat_mul_add_ofNat_mul d _ k 2, ← add_ofNat_mul_add_ofNat_mul d _ k 3]
  rfl

/-- Distinct multiples of an odd constant below 2^64 turns differ, and the avalanche function keeps them apart (R70). -/
theorem mix64_sequence_injective (d : Word) {j k : Nat} (hj : 1 ≤ j) (hj' : j ≤ 2 ^ 64) (hk : 1 ≤ k) (hk' : k ≤ 2 ^ 64)
    (h : mix64 parameters (d + BitVec.ofNat 64 j * parameters.sxGamma) =
      mix64 parameters (d + BitVec.ofNat 64 k * parameters.sxGamma)) : j = k := by
  obtain ⟨hgamma, -⟩ := parameters_odd_and_in_range
  have hmultiple := add_left_cancel (mix64_injective (by decide) h)
  have hword := (isUnit_of_odd hgamma).mul_left_injective hmultiple
  have hmod : j % 2 ^ 64 = k % 2 ^ 64 := by simpa using congrArg BitVec.toNat hword
  omega

/-- A `SEED` answers zero, and what follows runs with the seed loaded (R68). -/
theorem run_seed_cons (s : State) (d : Word) (ws : List CmdWord) :
    responses s (encode (.seed d) :: ws) = rspWord false 0 :: responses ((s.setSeed d).respondOk 0) ws ∧
    after s (encode (.seed d) :: ws) = after ((s.setSeed d).respondOk 0) ws := by
  rw [responses_cons, after_cons, blockStep_encode (exec_seed d s) (State.respondOk_rsp _ 0)]
  exact ⟨rfl, rfl⟩

/-- `INIT` with seed `x` leaves its triple (R73). -/
theorem after_init_gen {s : State} {x : Word} (hx : s.seedState = some x) :
    (after s [encode .init]).gen = some (initTriple parameters x) := by
  rw [after_cons, after_nil, blockStep_encode_of_exec (exec_init_of_seed hx)]
  rfl

/-- Settles O38: after the `SEED` (`run_seed_cons`) the `SXNEXT`s are `run_replicate_sxnext`, and `INIT` goes on from there
(`initTriple_add_ofNat_mul`); the outputs differ by `mix64_sequence_injective`. -/
theorem expanderSequenceLaw : Obligations.ExpanderSequenceLaw := by
  unfold Obligations.ExpanderSequenceLaw
  have hloaded (s : State) (d : Word) : ((s.setSeed d).respondOk 0).seedState = some d := rfl
  have hrun (s : State) (d : Word) (k : Nat) := run_replicate_sxnext (hloaded s d) k
  have hresponses (s : State) (d : Word) (k : Nat) :
      responses s (encode (.seed d) :: List.replicate k (encode .sxnext)) =
        rspWord false 0 :: (List.range k).map fun j =>
          rspWord false (mix64 parameters (d + BitVec.ofNat 64 (j + 1) * parameters.sxGamma)) := by
    rw [(run_seed_cons s d _).1, (hrun s d k).1]
  refine ⟨fun s d k => ⟨hresponses s d k, ?_, ?_⟩,
    fun d j k hj hj' hk hk' hne h => hne (mix64_sequence_injective d hj hj' hk hk' h), ?_, ?_⟩
  · exact (congrArg State.seedState (run_seed_cons s d _).2).trans (hrun s d k).2
  · rw [List.cons_append, (run_seed_cons s d _).2, after_append, after_init_gen (hrun s d k).2, initTriple_add_ofNat_mul]
    rfl
  · exact (hresponses State.reset 0 3).trans (by decide)
  · exact (hresponses State.reset 1 3).trans (by decide)

/-- `NEXT` answers the output of the triple and advances it (R74). -/
theorem blockStep_next (s : State) (g : GeneratorState) (hg : s.gen = some g) :
    (blockStep s (encode .next)).1.gen = some (genStep parameters g).2 ∧
      (blockStep s (encode .next)).2 = rspWord false (genStep parameters g).1 := by
  rw [blockStep_encode (exec_next_of_gen hg) (State.respondOk_rsp _ _)]
  exact ⟨rfl, rfl⟩

theorem tripleAfter_eq_iterate (g : GeneratorState) (n : Nat) :
    tripleAfter g n = (fun g => (genStep parameters g).2)^[n] g := by
  induction n with
  | zero => rfl
  | succ n ih => rw [Function.iterate_succ_apply', ← ih, tripleAfter]

/-- `fastCounter` advances by `FC_INC` with every `NEXT` (R27 (c)). -/
theorem tripleAfter_fastCounter (g : GeneratorState) (n : Nat) :
    (tripleAfter g n).fastCounter = g.fastCounter + BitVec.ofNat 64 n * parameters.fcInc := by
  have hstep : Function.Semiconj GeneratorState.fastCounter (fun g => (genStep parameters g).2)
      (fun x => x + parameters.fcInc) := fun _ => rfl
  rw [tripleAfter_eq_iterate, (hstep.iterate_right n).eq, iterate_add_const]

/-- `n` `NEXT`s with the triple `g` answer its successive outputs (R74, R78). -/
theorem responses_replicate_next {s : State} {g : GeneratorState} (hg : s.gen = some g) (n : Nat) :
    responses s (List.replicate n (encode .next)) =
      (List.range n).map fun k => rspWord false (genStep parameters (tripleAfter g k)).1 := by
  rw [responses_replicate_of_blockStep blockStep_next n hg]
  exact List.map_congr_left fun k _ => by rw [tripleAfter_eq_iterate]

/-- Settles O39: the counter by `blockStep_next_fastCounter`, the responses by `responses_replicate_next`. -/
theorem fastCounterAfterDraws : Obligations.FastCounterAfterDraws := by
  unfold Obligations.FastCounterAfterDraws
  refine fun s g n hg => ⟨?_, fun r hr => ?_⟩
  · have hcounter : s.fastCounter = some g.fastCounter := congrArg (Option.map _) hg
    rw [after_replicate_of_blockStep blockStep_next_fastCounter n hcounter, iterate_add_const]
    rfl
  · rw [responses_replicate_next hg] at hr
    obtain ⟨k, -, rfl⟩ := List.mem_map.mp hr
    exact rspErr_rspWord false _

/-- Settles O42: after the `SEED` and the `INIT` the triple is that of the seed, whatever was before. -/
theorem seedDeterminesTheStream : Obligations.SeedDeterminesTheStream := by
  unfold Obligations.SeedDeterminesTheStream
  intro s x n
  have hgen : (after s [encode (.seed x), encode .init]).gen = some (initTriple parameters x) :=
    congrArg State.gen (after_seed_init s x)
  rw [responses_seed_init, responses_replicate_next hgen]

theorem drawn_cons_of_next {s : State} {w : CmdWord} (hw : decode w = .next) (ws : List CmdWord) :
    drawn s (w :: ws) = (blockStep s w).2 :: drawn (blockStep s w).1 ws := by
  simp [drawn, hw]

theorem drawn_cons_of_ne_next {s : State} {w : CmdWord} (hw : decode w ≠ .next) (ws : List CmdWord) :
    drawn s (w :: ws) = drawn (blockStep s w).1 ws := by
  simp [drawn, hw]

/-- A command that is neither `NEXT` nor a successful `INIT` leaves the triple (R17, R25). -/
theorem genAfter_eq_gen_of_err {i : Instr} {s : State} (hnext : i ≠ .next)
    (hinit : i = .init → rspErr (responseOf i s) = true) : genAfter i s = s.gen := by
  by_cases hi : i = .init
  · subst hi
    have hnoSeed : s.seedState = none := by simpa [rspErr_responseOf_init, State.seedValid] using hinit rfl
    simp [genAfter, hnoSeed]
  · exact genAfter_eq_gen hi hnext s

/-- The draws of a run in which no `INIT` succeeds are the successive outputs of the triple at its start, which is advanced
once for each (R78). -/
theorem drawn_of_gen {s : State} {g : GeneratorState} {ws : List CmdWord} (hg : s.gen = some g)
    (hinit : ∀ p ∈ trace s ws, p.1 = .init → rspErr p.2 = true) :
    (drawn s ws = (List.range ((ws.map decode).count .next)).map fun n =>
      rspWord false (genStep parameters (tripleAfter g n)).1) ∧
    (after s ws).gen = some (tripleAfter g ((ws.map decode).count .next)) := by
  induction ws generalizing s g with
  | nil => exact ⟨rfl, hg⟩
  | cons w ws ih =>
    rw [trace_cons, List.forall_mem_cons] at hinit
    obtain ⟨hfirst, hrest⟩ := hinit
    have hgen := (blockStep_registers s w).2
    rw [after_cons, List.map_cons]
    by_cases hw : decode w = .next
    · have hadvanced : (blockStep s w).1.gen = some (genStep parameters g).2 := by
        rw [hgen, hw, genAfter, hg, Option.map_some]
      have hrsp : (blockStep s w).2 = rspWord false (genStep parameters g).1 := by
        rw [blockStep_of_next (by rw [hw, exec_next_of_gen hg]) (State.respondOk_rsp _ _)]
      obtain ⟨hdrawn, hafter⟩ := ih hadvanced hrest
      rw [drawn_cons_of_next hw, hdrawn, hafter, hrsp, hw, List.count_cons_self, List.range_succ_eq_map, List.map_cons,
        List.map_map]
      refine ⟨?_, congrArg some (tripleAfter_genStep g _)⟩
      simp only [tripleAfter_genStep]
      rfl
    · have hkept : (blockStep s w).1.gen = some g := by
        rw [blockStep_response] at hfirst
        rw [hgen, genAfter_eq_gen_of_err hw hfirst, hg]
      rw [drawn_cons_of_ne_next hw, List.count_cons_of_ne hw]
      exact ih hkept hrest

/-- Settles O41: the draws and the triple by `drawn_of_gen`, its counter by `tripleAfter_fastCounter`. -/
theorem drawsDependOnlyOnTheTriple : Obligations.DrawsDependOnlyOnTheTriple := by
  unfold Obligations.DrawsDependOnlyOnTheTriple
  intro s g ws hg hinit
  obtain ⟨hdrawn, hafter⟩ := drawn_of_gen hg hinit
  exact ⟨hdrawn, hafter, tripleAfter_fastCounter g⟩

end Sys2Proof.Machine
end
